-- ==== Sys2Proof/Word.lean ====
section
/-! DEFINITION. The words of the hardware: bytes, channel values, channel vectors, report buffers, and the
coded operation (which format, which word, which operand bus). Rules R10, R21, R26, R60 of spec/. -/

namespace Sys2Proof

/-- A byte: 8 bits, an unsigned value (R10). -/
abbrev Byte := BitVec 8

/-- A channel value: the 16-bit pattern `bits(v)` of a signed two's-complement value (R10, R21). Its signed
reading is `BitVec.toInt`. -/
abbrev Chan := BitVec 16

/-- A ChannelVector: exactly twelve channel values, whatever the mode (R21, R148). -/
abbrev ChannelVector := Vector Chan 12

/-- One report buffer `RB[g]`: 13 bytes (R26). -/
abbrev Report := Vector Byte 13

/-- The two report buffers `RB[0]`, `RB[1]` (R26). -/
abbrev ReportBuffers := Vector Report 2

/-- The primitives of format `PRIM` (R60, R64). -/
inductive Prim where
  | mux | cvt8 | cvt16 | btn | build | deliver
  deriving DecidableEq, Repr

/-- The formats in which an operation is given (R60). Which format a word has is no bit of the word: at the
ports it is which request strobe is asserted (R60, R67). The rows of `PRIM` are not told apart by their words
(R64), so the format names the primitive (DESIGN CHOICE, log 2 and 17). -/
inductive Format where
  | cfg | upd | prim (p : Prim) | env | rst
  deriving DecidableEq, Repr

/-- A coded operation: its format, the word its row is decoded from (a natural number, so that a word wider
than the format can be written down and rejected), and the operand bus. For `UPD` the bus is `ch_i` (R67);
for `PRIM` it carries the primitive's operands (DESIGN CHOICE, log 17); elsewhere it is ignored. -/
structure Code where
  fmt  : Format
  word : Nat
  bus  : BitVec 192
  deriving DecidableEq, Repr

end Sys2Proof
end

