-- ==== Sys2Proof/Config.lean ====
section
/-! DEFINITION. What one machine fixes, and the free values: the eight mode names, the open parameters DESC and
DESC_AW of rule R7, the value of CONNECTED at reset (R32), and the values the spec calls unspecified or "any
value" (R32, R160, R67). Every constant here that has no body is one nothing in Lean can evaluate. The fixed
parameters of R7 (eight modes, a 3-bit mode word, 12 channels of 16 bits, 6 axes, 2 gamepads, 8 button bits)
are in the types and in the Mode Table. -/

namespace Sys2Proof

/-- The eight modes by name, in the order of the Mode Table (R12, R80). -/
inductive Mode where
  | s8 | s16 | d8 | d16 | s7 | s15 | d7 | d15
  deriving DecidableEq, Repr

namespace Config

/-- DESC: the descriptor byte string of each mode, an open parameter (R7, R83, D15). Log 11. -/
opaque desc : Mode → List Byte

/-- The length of the longest of the eight descriptors. -/
def longestDesc : Nat :=
  [Mode.s8, .s16, .d8, .d16, .s7, .s15, .d7, .d15].foldr (fun m n => max (desc m).length n) 0

/-- How many bits wider than it must be an implementation makes the descriptor read address (D23). Log 13. -/
opaque descAwSpare : Nat

/-- DESC_AW: the width of the descriptor read address. It follows from DESC: any width from
`ceil(log2(max over modes of len(DESC(m))))` up (R7, R67, D23). Log 13. -/
def descAw : Nat := Nat.clog 2 longestDesc + descAwSpare

/-- The value of CONNECTED when the machine starts; the spec forbids assuming either value (R32, D17). Log 6. -/
opaque connectedAtReset : Bool

/-- What MODE holds after the n-th RESET operation: unspecified (R32, R160). Log 7. -/
opaque unspecMode : Nat → BitVec 3

/-- What CH holds after the n-th RESET operation: unspecified (R32, R160). Log 7. -/
opaque unspecCh : Nat → ChannelVector

/-- What RB holds after the n-th RESET operation: unspecified (R32, R160). Log 7. -/
opaque unspecRb : Nat → ReportBuffers

/-- What `mode_o` shows while CONFIGURED = 0, at the given moment: any value (R67, U9). Log 14. -/
opaque anyModeO : Nat → BitVec 3

/-- What `desc_data_o` shows for an offset it has no byte for, at the given moment: any value (R67, U9). Log 14. -/
opaque anyDescData : Nat → Byte

/-- What `desc_len_o` shows while CONFIGURED = 0, at the given moment: any value (R67, U9). Log 14. -/
opaque anyDescLen : Nat → Nat

/-- The bits of `rpt_data_o` beyond the report, at the given moment: any value (R67, U9). Log 14. -/
opaque anyRptData : Nat → BitVec 104

end Config

end Sys2Proof
end

