-- ==== Sys2Proof/Syntax.lean ====
section
/-! DEFINITION. The operations: one constructor per row of spec/opcode_table.json, in the table's order. -/

namespace Sys2Proof

/-- The rows of the opcode table, with their operands. The operand types are exact, so that misuse cannot be
written down: a vector has twelve values (R148), a gamepad index is 0 or 1 and an axis index 0 to 5 (R48, R100). -/
inductive Instr where
  /-- CONFIGURE SINGLE_8BIT (R85). -/
  | cfgS8
  /-- CONFIGURE SINGLE_16BIT (R86). -/
  | cfgS16
  /-- CONFIGURE DUAL_8BIT (R87). -/
  | cfgD8
  /-- CONFIGURE DUAL_16BIT (R88). -/
  | cfgD16
  /-- CONFIGURE SINGLE_7BIT (R89). -/
  | cfgS7
  /-- CONFIGURE SINGLE_15BIT (R90). -/
  | cfgS15
  /-- CONFIGURE DUAL_7BIT (R91). -/
  | cfgD7
  /-- CONFIGURE DUAL_15BIT (R92). -/
  | cfgD15
  /-- UPDATE whose dispatch word is `0mmm` (R112); `mmm` is MODE, any value, and has no effect. -/
  | drop (mmm : BitVec 3) (chv : ChannelVector)
  /-- UPDATE whose dispatch word is `1000`: connected, SINGLE_8BIT (R115). -/
  | encS8 (chv : ChannelVector)
  /-- UPDATE whose dispatch word is `1001`: connected, SINGLE_16BIT (R116). -/
  | encS16 (chv : ChannelVector)
  /-- UPDATE whose dispatch word is `1010`: connected, DUAL_8BIT (R117). -/
  | encD8 (chv : ChannelVector)
  /-- UPDATE whose dispatch word is `1011`: connected, DUAL_16BIT (R118). -/
  | encD16 (chv : ChannelVector)
  /-- UPDATE whose dispatch word is `1100`: connected, SINGLE_7BIT (R119). -/
  | encS7 (chv : ChannelVector)
  /-- UPDATE whose dispatch word is `1101`: connected, SINGLE_15BIT (R120). -/
  | encS15 (chv : ChannelVector)
  /-- UPDATE whose dispatch word is `1110`: connected, DUAL_7BIT (R121). -/
  | encD7 (chv : ChannelVector)
  /-- UPDATE whose dispatch word is `1111`: connected, DUAL_15BIT (R122). -/
  | encD15 (chv : ChannelVector)
  /-- The channel multiplexer (R100). -/
  | mux (g : Fin 2) (a : Fin 6)
  /-- The 16-to-8 converter (R101). -/
  | cvt8 (v : Chan)
  /-- The 16-to-16 converter (R102). -/
  | cvt16 (v : Chan)
  /-- The button byte (R103). -/
  | btn
  /-- The assembly of report buffer `g` (R104). -/
  | build (g : Fin 2)
  /-- The delivery of report buffer `g` (R113). -/
  | deliver (g : Fin 2)
  /-- The collaborator writes 0 to CONNECTED (R131). -/
  | disconnect
  /-- The collaborator writes 1 to CONNECTED (R130). -/
  | connect
  /-- The reset source's step (R160). -/
  | reset
  deriving DecidableEq, Repr

end Sys2Proof
end

