-- ==== Sys2Proof/WellFormed.lean ====
section
/-! DEFINITION. Which coded operations are well formed. An `Instr` needs no check of its own: its operand types
are exact (R48, R148). A `Code` has three: its word fits the format's width (R60 to R64), a converter's word
selects it (R64), and the operand bus holds an operand and nothing else. -/

namespace Sys2Proof

/-- The width in bits of a format's word: the mode word (R61), the dispatch word (R63), CONNECTED (R60); a reset
request has no bits (R60). -/
def Format.width : Format → Nat
  | .cfg => 3
  | .upd => 4
  | .prim _ => 3
  | .env => 1
  | .rst => 0

/-- The word has no bit beyond its format's width. -/
def Code.wordFits (c : Code) : Bool := Nat.blt c.word (2 ^ c.fmt.width)

/-- CVT8 runs when `MODE.W = 0`, CVT16 when `MODE.W = 1`; nothing else is selected by a bit (R64). -/
def Code.selected (c : Code) : Bool :=
  match c.fmt with
  | .prim .cvt8 => c.word % 2 == 0
  | .prim .cvt16 => c.word % 2 == 1
  | _ => true

/-- The operand bus holds exactly the operand of the format (`ch_i` for `UPD`; log 17 for `PRIM`). -/
def Code.operandFits (c : Code) : Bool :=
  match c.fmt with
  | .cfg | .env | .rst | .prim .btn => c.bus == 0
  | .upd => true
  | .prim .mux => Nat.blt c.bus.toNat 12
  | .prim .cvt8 | .prim .cvt16 => Nat.blt c.bus.toNat 65536
  | .prim .build | .prim .deliver => Nat.blt c.bus.toNat 2

/-- A well-formed coded operation. -/
def Code.wellFormed (c : Code) : Bool := c.wordFits && c.selected && c.operandFits

end Sys2Proof
end

