-- ==== Sys2Proof/Decode.lean ====
section
/-! DEFINITION. The decoder of coded operations, total and rejecting by name; the encoder; the opcode table as a
list of rows; and the reading of a bare table word. Rules R60 to R65 of spec/30_encoding.md, R67 for the bus. -/

namespace Sys2Proof

/-! ### The channel bus -/

/-- `ch_i` cut into channels: channel `i` is `ch_i[16*i + 15 : 16*i]` (R67). -/
def channelsOfBus (b : BitVec 192) : ChannelVector :=
  #v[b.extractLsb' 0 16, b.extractLsb' 16 16, b.extractLsb' 32 16, b.extractLsb' 48 16,
     b.extractLsb' 64 16, b.extractLsb' 80 16, b.extractLsb' 96 16, b.extractLsb' 112 16,
     b.extractLsb' 128 16, b.extractLsb' 144 16, b.extractLsb' 160 16, b.extractLsb' 176 16]

/-- A channel's 16 bits at position `16*i` of the bus. -/
def channelAt (i : Nat) (v : Chan) : BitVec 192 := v.setWidth 192 <<< (16 * i)

/-- The twelve channels laid on `ch_i`, channel 0 in the low 16 bits (R67). -/
def busOfChannels (ch : ChannelVector) : BitVec 192 :=
  channelAt 0 ch[0] ||| channelAt 1 ch[1] ||| channelAt 2 ch[2] ||| channelAt 3 ch[3] |||
  channelAt 4 ch[4] ||| channelAt 5 ch[5] ||| channelAt 6 ch[6] ||| channelAt 7 ch[7] |||
  channelAt 8 ch[8] ||| channelAt 9 ch[9] ||| channelAt 10 ch[10] ||| channelAt 11 ch[11]

/-! ### Decoding -/

/-- Why a coded operation is no row of the table. -/
inductive DecodeError where
  /-- A raw mode value of 8 or more names no mode (R65, R142). -/
  | undefinedMode (w : Nat)
  /-- The word has more bits than its format. -/
  | wordTooWide (f : Format) (w : Nat)
  /-- A converter that the mode word does not select (R64). -/
  | notSelected (p : Prim) (w : Nat)
  /-- An axis index above 5 (R48). -/
  | badAxis (a : Nat)
  deriving DecidableEq, Repr

/-- The mode word of a CONFIGURE (R61); a raw value of 8 or more is an undefined mode (R65). -/
def decodeCfg (w : Nat) : Except DecodeError Instr :=
  match w with
  | 0 => .ok .cfgS8
  | 1 => .ok .cfgS16
  | 2 => .ok .cfgD8
  | 3 => .ok .cfgD16
  | 4 => .ok .cfgS7
  | 5 => .ok .cfgS15
  | 6 => .ok .cfgD7
  | 7 => .ok .cfgD15
  | w => .error (.undefinedMode w)

/-- The dispatch word of an UPDATE, `(c, MODE)` with `c` at bit 3; total over all 16 values (R63). -/
def decodeUpd (w : Nat) (chv : ChannelVector) : Except DecodeError Instr :=
  if w < 8 then .ok (.drop (BitVec.ofNat 3 w) chv)
  else match w with
    | 8 => .ok (.encS8 chv)
    | 9 => .ok (.encS16 chv)
    | 10 => .ok (.encD8 chv)
    | 11 => .ok (.encD16 chv)
    | 12 => .ok (.encS7 chv)
    | 13 => .ok (.encS15 chv)
    | 14 => .ok (.encD7 chv)
    | 15 => .ok (.encD15 chv)
    | w => .error (.wordTooWide .upd w)

/-- The gamepad index carried by bit 0 of a primitive's operand bus (log 17). -/
def busGamepad (b : BitVec 192) : Fin 2 := if b.getLsbD 0 then 1 else 0

/-- A primitive: its word is the mode word, and only CVT8 and CVT16 look at it (R64). -/
def decodePrim (p : Prim) (w : Nat) (b : BitVec 192) : Except DecodeError Instr :=
  if 8 ≤ w then .error (.wordTooWide (.prim p) w)
  else match p with
    | .mux =>
      let a := (b.extractLsb' 1 3).toNat
      if h : a < 6 then .ok (.mux (busGamepad b) ⟨a, h⟩) else .error (.badAxis a)
    | .cvt8 => if w % 2 = 0 then .ok (.cvt8 (b.extractLsb' 0 16)) else .error (.notSelected .cvt8 w)
    | .cvt16 => if w % 2 = 1 then .ok (.cvt16 (b.extractLsb' 0 16)) else .error (.notSelected .cvt16 w)
    | .btn => .ok .btn
    | .build => .ok (.build (busGamepad b))
    | .deliver => .ok (.deliver (busGamepad b))

/-- The bit an environment operation writes to CONNECTED (R60 item 4, R130, R131). -/
def decodeEnv (w : Nat) : Except DecodeError Instr :=
  match w with
  | 0 => .ok .disconnect
  | 1 => .ok .connect
  | w => .error (.wordTooWide .env w)

/-- A reset request has no bits (R60 item 5). -/
def decodeRst (w : Nat) : Except DecodeError Instr :=
  match w with
  | 0 => .ok .reset
  | w => .error (.wordTooWide .rst w)

/-- The decoder: total on every coded operation. -/
def decode (c : Code) : Except DecodeError Instr :=
  match c.fmt with
  | .cfg => decodeCfg c.word
  | .upd => decodeUpd c.word (channelsOfBus c.bus)
  | .prim p => decodePrim p c.word c.bus
  | .env => decodeEnv c.word
  | .rst => decodeRst c.word

/-! ### Encoding -/

/-- The code of an operation: the words of R61, R63, R130, R131 and R160; for a primitive a mode word that
selects it (R64) and its operands on the bus (log 17). -/
def encode : Instr → Code
  | .cfgS8 => ⟨.cfg, 0, 0⟩
  | .cfgS16 => ⟨.cfg, 1, 0⟩
  | .cfgD8 => ⟨.cfg, 2, 0⟩
  | .cfgD16 => ⟨.cfg, 3, 0⟩
  | .cfgS7 => ⟨.cfg, 4, 0⟩
  | .cfgS15 => ⟨.cfg, 5, 0⟩
  | .cfgD7 => ⟨.cfg, 6, 0⟩
  | .cfgD15 => ⟨.cfg, 7, 0⟩
  | .drop mmm chv => ⟨.upd, mmm.toNat, busOfChannels chv⟩
  | .encS8 chv => ⟨.upd, 8, busOfChannels chv⟩
  | .encS16 chv => ⟨.upd, 9, busOfChannels chv⟩
  | .encD8 chv => ⟨.upd, 10, busOfChannels chv⟩
  | .encD16 chv => ⟨.upd, 11, busOfChannels chv⟩
  | .encS7 chv => ⟨.upd, 12, busOfChannels chv⟩
  | .encS15 chv => ⟨.upd, 13, busOfChannels chv⟩
  | .encD7 chv => ⟨.upd, 14, busOfChannels chv⟩
  | .encD15 chv => ⟨.upd, 15, busOfChannels chv⟩
  | .mux g a => ⟨.prim .mux, 0, BitVec.ofNat 192 (g.val + 2 * a.val)⟩
  | .cvt8 v => ⟨.prim .cvt8, 0, v.setWidth 192⟩
  | .cvt16 v => ⟨.prim .cvt16, 1, v.setWidth 192⟩
  | .btn => ⟨.prim .btn, 0, 0⟩
  | .build g => ⟨.prim .build, 0, BitVec.ofNat 192 g.val⟩
  | .deliver g => ⟨.prim .deliver, 0, BitVec.ofNat 192 g.val⟩
  | .disconnect => ⟨.env, 0, 0⟩
  | .connect => ⟨.env, 1, 0⟩
  | .reset => ⟨.rst, 0, 0⟩

/-! ### The opcode table -/

/-- One row of spec/opcode_table.json: a word `x` selects the row when `x & mask = value`. -/
structure Row where
  mnemonic : String
  fmt      : Format
  mask     : Nat
  value    : Nat
  deriving DecidableEq, Repr

/-- The row of each operation. -/
def Instr.row : Instr → Row
  | .cfgS8 => ⟨"CFG.S8", .cfg, 7, 0⟩
  | .cfgS16 => ⟨"CFG.S16", .cfg, 7, 1⟩
  | .cfgD8 => ⟨"CFG.D8", .cfg, 7, 2⟩
  | .cfgD16 => ⟨"CFG.D16", .cfg, 7, 3⟩
  | .cfgS7 => ⟨"CFG.S7", .cfg, 7, 4⟩
  | .cfgS15 => ⟨"CFG.S15", .cfg, 7, 5⟩
  | .cfgD7 => ⟨"CFG.D7", .cfg, 7, 6⟩
  | .cfgD15 => ⟨"CFG.D15", .cfg, 7, 7⟩
  | .drop _ _ => ⟨"DROP", .upd, 8, 0⟩
  | .encS8 _ => ⟨"ENC.S8", .upd, 15, 8⟩
  | .encS16 _ => ⟨"ENC.S16", .upd, 15, 9⟩
  | .encD8 _ => ⟨"ENC.D8", .upd, 15, 10⟩
  | .encD16 _ => ⟨"ENC.D16", .upd, 15, 11⟩
  | .encS7 _ => ⟨"ENC.S7", .upd, 15, 12⟩
  | .encS15 _ => ⟨"ENC.S15", .upd, 15, 13⟩
  | .encD7 _ => ⟨"ENC.D7", .upd, 15, 14⟩
  | .encD15 _ => ⟨"ENC.D15", .upd, 15, 15⟩
  | .mux _ _ => ⟨"MUX", .prim .mux, 0, 0⟩
  | .cvt8 _ => ⟨"CVT8", .prim .cvt8, 1, 0⟩
  | .cvt16 _ => ⟨"CVT16", .prim .cvt16, 1, 1⟩
  | .btn => ⟨"BTN", .prim .btn, 0, 0⟩
  | .build _ => ⟨"BUILD", .prim .build, 0, 0⟩
  | .deliver _ => ⟨"DELIVER", .prim .deliver, 0, 0⟩
  | .disconnect => ⟨"DISCONNECT", .env, 1, 0⟩
  | .connect => ⟨"CONNECT", .env, 1, 1⟩
  | .reset => ⟨"RESET", .rst, 0, 0⟩

/-- The rows of formats CFG, UPD and ENV, in which exactly one row matches any word. -/
def issuableRows : List Row :=
  [Instr.cfgS8.row, Instr.cfgS16.row, Instr.cfgD8.row, Instr.cfgD16.row,
   Instr.cfgS7.row, Instr.cfgS15.row, Instr.cfgD7.row, Instr.cfgD15.row] ++
  [⟨"DROP", .upd, 8, 0⟩, ⟨"ENC.S8", .upd, 15, 8⟩, ⟨"ENC.S16", .upd, 15, 9⟩, ⟨"ENC.D8", .upd, 15, 10⟩,
   ⟨"ENC.D16", .upd, 15, 11⟩, ⟨"ENC.S7", .upd, 15, 12⟩, ⟨"ENC.S15", .upd, 15, 13⟩,
   ⟨"ENC.D7", .upd, 15, 14⟩, ⟨"ENC.D15", .upd, 15, 15⟩] ++
  [Instr.disconnect.row, Instr.connect.row, Instr.reset.row]

/-- The code's format is the row's, and its word agrees with the row's value under the mask. -/
def Row.selects (r : Row) (c : Code) : Bool := r.fmt == c.fmt && (c.word &&& r.mask == r.value)

/-! ### A bare word of the table -/

/-- The format of a bare table word. The table's words are numbered within their format and say nothing of it
(R60), so the number of bits decides: 0 for RST, 1 for ENV, 3 for CFG, 4 for UPD; a word given in whole bytes is
a mode word when it is below 8 and a dispatch word when it is 8 to 15 (DESIGN CHOICE, log 2). -/
def tableFormat (nbits w : Nat) : Format :=
  match nbits with
  | 0 => .rst
  | 1 => .env
  | 3 => .cfg
  | 4 => .upd
  | _ => if 8 ≤ w ∧ w < 16 then .upd else .cfg

/-- A bare table word as a coded operation; the operand bus, which the table gives no bits, is 0. -/
def tableCode (nbits w : Nat) : Code := ⟨tableFormat nbits w, w, 0⟩

/-- What the decoder reads from a bare table word. -/
def decodeTableWord (nbits w : Nat) : Option Instr :=
  match decode (tableCode nbits w) with
  | .ok i => some i
  | .error _ => none

end Sys2Proof
end

