-- ==== Sys2Proof/Machine/State.lean ====
section
/-! DEFINITION. The state of the machine, the events it emits, the requests it takes, and the state at reset.
Rules R20 to R33 of spec/10_state.md. -/

namespace Sys2Proof.Machine

/-- The causes of a fault, in the order of their codes 1, 2, 3 (R141). -/
inductive Cause where
  | invalidMode | reconfigure | notConfigured
  deriving DecidableEq, Repr

/-- The phase of the block, a function of FAULT and CONFIGURED (R28). -/
inductive Phase where
  | unconfigured | ready | faulted
  deriving DecidableEq, Repr

/-- The value of a primitive executed by itself: a channel (MUX), a byte (CVT8, BTN) or two bytes, low first
(CVT16). The model's own (log 9). -/
inductive PrimValue where
  | nothing
  | channel (v : Chan)
  | byte (b : Byte)
  | bytes (lo hi : Byte)
  deriving DecidableEq, Repr

/-- The output events (R11, R67): `Publish(m, DESC(m))` to the collaborator, with the mode word, and
`Deliver(g, bytes)` to the report sink of gamepad index `g`. -/
inductive Event where
  | publish (mode : BitVec 3) (descriptor : List Byte)
  | deliver (g : Fin 2) (bytes : List Byte)
  deriving DecidableEq, Repr

/-- What an agent asks of the machine (R8, R68): CONFIGURE with the raw mode operand, UPDATE with `ch_i`,
RESET, or the collaborator's write of CONNECTED. The raw operand is a number of any size, so that an undefined
mode value can be presented (R65, R142; log 15). -/
inductive Request where
  | configure (raw : Nat)
  | update (ch_i : BitVec 192)
  | reset
  | setConnected (v : BitVec 1)
  deriving DecidableEq, Repr

/-- The state. The first five fields are the block's (R20); `connected` is the environment's bit that the block
reads (R25); the last four are the model's own: the requests not yet taken (log 1), the events emitted so far
(log 8), the value of a primitive executed by itself (log 9), and the index of the next free values (log 7). -/
structure State where
  /-- CH[0..11], the channel latches (R21). -/
  ch         : ChannelVector
  /-- MODE, the mode word (R22). -/
  mode       : BitVec 3
  /-- CONFIGURED (R23). -/
  configured : Bool
  /-- FAULT, the cause code, 0 for none (R24). -/
  fault      : BitVec 2
  /-- RB[0..1][0..12], the report buffers (R26). -/
  rb         : ReportBuffers
  /-- CONNECTED, owned by the environment (R25). -/
  connected  : Bool
  /-- The requests issued and not yet taken, oldest first. -/
  pending    : List Request
  /-- The output events emitted, oldest first (R135). -/
  events     : List Event
  /-- The value of the primitive last executed by itself. -/
  primOut    : PrimValue
  /-- How many times free values have been drawn. -/
  draws      : Nat
  deriving DecidableEq, Repr

/-- No operation stops the machine: a contract violation is latched in FAULT and the machine goes on (R140,
R146, R147), and every operation completes (R176). So no constructor. -/
inductive Fault where
  deriving DecidableEq, Repr

/-- Why the model has no meaning to give. -/
inductive Refusal where
  /-- An instruction without a meaning, raised by `exec`; no arm raises it. Safe. -/
  | notModelled (mnemonic : String)
  /-- A coded operation that is malformed other than by an undefined mode value, raised by `step`; no request
  has such a code. Safe. -/
  | badCode (e : DecodeError)
  deriving DecidableEq, Repr

/-- The machine at power-on, the state after reset (R32, R160): CONFIGURED and FAULT are 0, nothing is pending and
nothing has been emitted. MODE, CH and RB are unspecified there; the model takes zeros (DESIGN CHOICE, log 3, 4
and 5). CONNECTED is an unknown bit (R32, D17; log 6). -/
def State.reset : State where
  ch := #v[0, 0, 0, 0, 0, 0, 0, 0, 0, 0, 0, 0]
  mode := 0
  configured := false
  fault := 0
  rb := #v[#v[0, 0, 0, 0, 0, 0, 0, 0, 0, 0, 0, 0, 0], #v[0, 0, 0, 0, 0, 0, 0, 0, 0, 0, 0, 0, 0]]
  connected := Config.connectedAtReset
  pending := []
  events := []
  primOut := .nothing
  draws := 0

end Sys2Proof.Machine
end

