-- ==== Sys2Proof/Machine/Flags.lean ====
section
/-! DEFINITION. The status bits. The block has no arithmetic flags (R29); what it has is FAULT, CONFIGURED and the
phase they give. Rules R23, R24, R28 of spec/10_state.md and R141 of spec/60_exceptions.md. -/

namespace Sys2Proof.Machine

/-- The cause codes held in FAULT (R141). -/
def Cause.code : Cause → BitVec 2
  | .invalidMode => 1
  | .reconfigure => 2
  | .notConfigured => 3

/-- The phase (R28). -/
def State.phase (s : State) : Phase :=
  if s.fault ≠ 0#2 then .faulted
  else if s.configured then .ready
  else .unconfigured

end Sys2Proof.Machine
end

