-- ==== Sys2Proof/Machine/ModeTable.lean ====
section
/-! DEFINITION. The Mode Table and its pure contracts. Rules R61, R62 of spec/30_encoding.md and R80 to R83, R95
of spec/40_mode_table.md. -/

namespace Sys2Proof.Machine

/-- The mode a mode word names (R61). -/
def modeOfWord (w : BitVec 3) : Mode :=
  match w.toNat with
  | 0 => .s8
  | 1 => .s16
  | 2 => .d8
  | 3 => .d16
  | 4 => .s7
  | 5 => .s15
  | 6 => .d7
  | _ => .d15

/-- The mode word of a mode (R61). -/
def wordOfMode : Mode → BitVec 3
  | .s8 => 0
  | .s16 => 1
  | .d8 => 2
  | .d16 => 3
  | .s7 => 4
  | .s15 => 5
  | .d7 => 6
  | .d15 => 7

/-- The fields of a mode word: bit 0 the axis width, bit 1 single or dual, bit 2 the declared range (R62). -/
def fieldW (w : BitVec 3) : Bool := w.getLsbD 0
@[inherit_doc fieldW] def fieldD (w : BitVec 3) : Bool := w.getLsbD 1
@[inherit_doc fieldW] def fieldU (w : BitVec 3) : Bool := w.getLsbD 2

/-- One entry of the Mode Table: axis field width in bits, logical range, reports per update, report length in
bytes (R80). -/
structure ModeParams where
  axw  : Nat
  lmin : Int
  lmax : Int
  nrep : Nat
  rlen : Nat
  deriving DecidableEq, Repr

/-- The Mode Table, row for row (R80). The report count is a column, never computed from the mode number
(R95, R171). -/
def modeParams : Mode → ModeParams
  | .s8 => ⟨8, -127, 127, 1, 7⟩
  | .s16 => ⟨16, -32767, 32767, 1, 13⟩
  | .d8 => ⟨8, -127, 127, 2, 7⟩
  | .d16 => ⟨16, -32767, 32767, 2, 13⟩
  | .s7 => ⟨8, 0, 127, 1, 7⟩
  | .s15 => ⟨16, 0, 32767, 1, 13⟩
  | .d7 => ⟨8, 0, 127, 2, 7⟩
  | .d15 => ⟨16, 0, 32767, 2, 13⟩

/-- `AXW(m)`, the axis field width (R7, R80). -/
def axisWidth (m : Mode) : Nat := (modeParams m).axw

/-- `NREP(m)`, the number of reports per update (R7, R80). -/
def reportCount (m : Mode) : Nat := (modeParams m).nrep

/-- `RLEN(m)`, the report length in bytes (R7, R69, R80). -/
def reportLength (m : Mode) : Nat := (modeParams m).rlen

/-- `paramsFor(mode)`: axis width and report count (R81). -/
def paramsFor (m : Mode) : Nat × Nat := (axisWidth m, reportCount m)

/-- `rangeFor(mode)`: the declared logical range (R82). -/
def rangeFor (m : Mode) : Int × Int := ((modeParams m).lmin, (modeParams m).lmax)

/-- `descriptorFor(mode)`: the descriptor bytes (R83); the open parameter DESC. -/
def descriptorFor (m : Mode) : List Byte := Config.desc m

/-- The gamepad indices of an update with `n` reports, in increasing order: `0 .. n - 1` (R52, R114). -/
def gamepadIndices (n : Nat) : List (Fin 2) := ([0, 1] : List (Fin 2)).filter (fun g => g.val < n)

end Sys2Proof.Machine
end

