-- ==== Sys2Proof/Machine/Operands.lean ====
section
/-! DEFINITION. The datapath's values: the multiplexer, the two converters, the button byte, and the writing of one
axis field into a report buffer. Rules R100 to R104 of spec/41_datapath.md, R41 to R48 of spec/20_memory.md. -/

namespace Sys2Proof.Machine

/-- The channel index `6*g + a` of axis `a` of gamepad index `g`; always in `0 .. 11` (R48). -/
def channelIndex (g : Fin 2) (a : Fin 6) : Fin 12 := ⟨6 * g.val + a.val, by omega⟩

/-- `MUX(g, a) = CH[6*g + a]` (R100). -/
def mux (ch : ChannelVector) (g : Fin 2) (a : Fin 6) : Chan := ch[channelIndex g a]

/-- `CVT8(v) = bits(v)[15:8]`, the arithmetic shift right by 8 (R101). -/
def cvt8 (v : Chan) : Byte := v.extractLsb' 8 8

/-- The low byte of `CVT16(v)`, `bits(v)[7:0]` (R102). -/
def cvt16Lo (v : Chan) : Byte := v.extractLsb' 0 8

/-- The high byte of `CVT16(v)`, `bits(v)[15:8]` (R102). -/
def cvt16Hi (v : Chan) : Byte := v.extractLsb' 8 8

/-- `BTN = 0x00`, the button byte (R103). -/
def btnByte : Byte := 0

/-- The axis indices `0 .. 5`, in increasing order (R104). -/
def axisIndices : List (Fin 6) := [0, 1, 2, 3, 4, 5]

/-- One turn of BUILD's loop: the field of axis `a` written at offset `1 + a` (8-bit), or at `1 + 2*a` and
`2 + 2*a`, low byte first (16-bit) (R104, R41, R42). -/
def writeAxis (m : Mode) (v : Chan) (a : Fin 6) (r : Report) : Report :=
  if axisWidth m = 8 then r.set (1 + a.val) (cvt8 v)
  else (r.set (1 + 2 * a.val) (cvt16Lo v)).set (2 + 2 * a.val) (cvt16Hi v)

/-- The contents of report buffer `g` after BUILD, from its contents before: the button byte, then the six axis
fields; bytes from `RLEN` up are as before (R104). -/
def buildReport (m : Mode) (ch : ChannelVector) (g : Fin 2) (old : Report) : Report :=
  axisIndices.foldl (fun r a => writeAxis m (mux ch g a) a r) (old.set 0 btnByte)

/-- The first `RLEN` bytes of a buffer, in increasing offset (R113). -/
def reportBytes (m : Mode) (r : Report) : List Byte := r.toList.take (reportLength m)

end Sys2Proof.Machine
end

