-- ==== Sys2Proof/Machine/Ops.lean ====
section
/-! DEFINITION. The operations shared by the meanings: emitting an event, the fault entry and its only exit, the
capture of the channels, BUILD, DELIVER, the report loop, CONFIGURE, and the frame of an UPDATE. -/

namespace Sys2Proof.Machine

/-- Emit one output event, after those already emitted (R52). -/
def emit (e : Event) (s : State) : State := { s with events := s.events ++ [e] }

/-- Fault entry, `raise Fault(c)`: latch the cause if none is latched; nothing else is written and nothing is
emitted (R146). -/
def raiseFault (c : Cause) (s : State) : State :=
  if s.fault = 0#2 then { s with fault := c.code } else s

/-- RESET, the only way out of a fault (R147, R160): CONFIGURED and FAULT become 0; MODE, CH and RB become
unspecified, so each gets a free value (log 7); CONNECTED is not touched and nothing is emitted. -/
def resetBlock (s : State) : State :=
  { s with
    configured := false
    fault := 0
    mode := Config.unspecMode s.draws
    ch := Config.unspecCh s.draws
    rb := Config.unspecRb s.draws
    draws := s.draws + 1 }

/-- The atomic capture of all twelve channels (R21, R46, R110). -/
def capture (chv : ChannelVector) (s : State) : State := { s with ch := chv }

/-- BUILD(g) under mode `m`: writes report buffer `g` only (R104). -/
def build (m : Mode) (g : Fin 2) (s : State) : State :=
  { s with rb := s.rb.set g.val (buildReport m s.ch g s.rb[g]) }

/-- DELIVER(g) under mode `m`: one event, the first `RLEN` bytes of buffer `g`, tagged with `g` (R113). -/
def deliver (m : Mode) (g : Fin 2) (s : State) : State :=
  emit (.deliver g (reportBytes m s.rb[g])) s

/-- The dual-buffer controller: for each gamepad index, BUILD then DELIVER (R114). -/
def reportLoop (m : Mode) : List (Fin 2) → State → State
  | [], s => s
  | g :: gs, s => reportLoop m gs (deliver m g (build m g s))

/-- The reports of one update under mode `m`: `g` in `0 .. NREP(m) - 1` (R110, R114). -/
def sendReports (m : Mode) (s : State) : State := reportLoop m (gamepadIndices (reportCount m)) s

/-- CONFIGURE(w) for a raw operand of any size (R84): ignored while FAULTED (R147); Reconfigure when a mode is
active (R143); InvalidMode when the value names no mode (R142); otherwise MODE and CONFIGURED are written and the
descriptor is published. -/
def configure (raw : Nat) (s : State) : State :=
  if s.fault ≠ 0#2 then s
  else if s.configured then raiseFault .reconfigure s
  else if 8 ≤ raw then raiseFault .invalidMode s
  else
    let w := BitVec.ofNat 3 raw
    emit (.publish w (descriptorFor (modeOfWord w))) { s with mode := w, configured := true }

/-- UPDATE(chv) with what follows the gate left open (R110): ignored while FAULTED (R147); NotConfigured when no
mode is active (R144); otherwise the channels are captured and `rest` follows. -/
def updateThen (rest : State → State) (chv : ChannelVector) (s : State) : State :=
  if s.fault ≠ 0#2 then s
  else if s.configured then rest (capture chv s)
  else raiseFault .notConfigured s

end Sys2Proof.Machine
end

