-- ==== Sys2Proof/Machine/Configure.lean ====
section
/-! DEFINITION. The eight CONFIGURE operations: CONFIGURE of R84 with a fixed mode word (R85 to R92). -/

namespace Sys2Proof.Machine

/-- CFG.S8 (R85). -/
def execCfgS8 (s : State) : Host.Outcome State Fault Refusal := .next (configure 0 s)
/-- CFG.S16 (R86). -/
def execCfgS16 (s : State) : Host.Outcome State Fault Refusal := .next (configure 1 s)
/-- CFG.D8 (R87). -/
def execCfgD8 (s : State) : Host.Outcome State Fault Refusal := .next (configure 2 s)
/-- CFG.D16 (R88). -/
def execCfgD16 (s : State) : Host.Outcome State Fault Refusal := .next (configure 3 s)
/-- CFG.S7 (R89). -/
def execCfgS7 (s : State) : Host.Outcome State Fault Refusal := .next (configure 4 s)
/-- CFG.S15 (R90). -/
def execCfgS15 (s : State) : Host.Outcome State Fault Refusal := .next (configure 5 s)
/-- CFG.D7 (R91). -/
def execCfgD7 (s : State) : Host.Outcome State Fault Refusal := .next (configure 6 s)
/-- CFG.D15 (R92). -/
def execCfgD15 (s : State) : Host.Outcome State Fault Refusal := .next (configure 7 s)

end Sys2Proof.Machine
end

