-- ==== Sys2Proof/Machine/Encoder.lean ====
section
/-! DEFINITION. The nine UPDATE operations, one per row of format UPD: UPDATE of R110 whose gate and mode are the
bits of the row's dispatch word, sampled once by the step that selected the row (R63, R111; log 10). -/

namespace Sys2Proof.Machine

/-- DROP: nothing after the capture (R112); the mode bits have no effect. -/
def execDrop (_mmm : BitVec 3) (chv : ChannelVector) (s : State) : Host.Outcome State Fault Refusal :=
  .next (updateThen (fun s' => s') chv s)
/-- ENC.S8 (R115). -/
def execEncS8 (chv : ChannelVector) (s : State) : Host.Outcome State Fault Refusal :=
  .next (updateThen (sendReports .s8) chv s)
/-- ENC.S16 (R116). -/
def execEncS16 (chv : ChannelVector) (s : State) : Host.Outcome State Fault Refusal :=
  .next (updateThen (sendReports .s16) chv s)
/-- ENC.D8 (R117). -/
def execEncD8 (chv : ChannelVector) (s : State) : Host.Outcome State Fault Refusal :=
  .next (updateThen (sendReports .d8) chv s)
/-- ENC.D16 (R118). -/
def execEncD16 (chv : ChannelVector) (s : State) : Host.Outcome State Fault Refusal :=
  .next (updateThen (sendReports .d16) chv s)
/-- ENC.S7 (R119): the bytes of ENC.S8, for every input. -/
def execEncS7 (chv : ChannelVector) (s : State) : Host.Outcome State Fault Refusal :=
  .next (updateThen (sendReports .s7) chv s)
/-- ENC.S15 (R120): the bytes of ENC.S16, for every input. -/
def execEncS15 (chv : ChannelVector) (s : State) : Host.Outcome State Fault Refusal :=
  .next (updateThen (sendReports .s15) chv s)
/-- ENC.D7 (R121): the bytes of ENC.D8, for every input. -/
def execEncD7 (chv : ChannelVector) (s : State) : Host.Outcome State Fault Refusal :=
  .next (updateThen (sendReports .d7) chv s)
/-- ENC.D15 (R122): the bytes of ENC.D16, for every input. -/
def execEncD15 (chv : ChannelVector) (s : State) : Host.Outcome State Fault Refusal :=
  .next (updateThen (sendReports .d15) chv s)

end Sys2Proof.Machine
end

