-- ==== Sys2Proof/Machine/Environment.lean ====
section
/-! DEFINITION. The steps of the other agents: the collaborator's writes of CONNECTED and the reset source's RESET.
Rules R130, R131 of spec/43_environment_ops.md and R160 of spec/70_reset_and_hazards.md. -/

namespace Sys2Proof.Machine

/-- CONNECT: `CONNECTED <- 1`, in any phase, nothing else (R130). -/
def execConnect (s : State) : Host.Outcome State Fault Refusal := .next { s with connected := true }
/-- DISCONNECT: `CONNECTED <- 0`, in any phase, nothing else (R131). -/
def execDisconnect (s : State) : Host.Outcome State Fault Refusal := .next { s with connected := false }
/-- RESET, accepted in every phase (R160). -/
def execReset (s : State) : Host.Outcome State Fault Refusal := .next (resetBlock s)

end Sys2Proof.Machine
end

