-- ==== Sys2Proof/Machine/Primitives.lean ====
section
/-! DEFINITION. The six primitives executed by themselves. No agent can issue one (R100 to R104, R113); an encoding
runs them through the same functions. The value of a primitive that writes no register is left in `primOut`
(log 9). BUILD and DELIVER read the mode in MODE. -/

namespace Sys2Proof.Machine

/-- MUX(g, a) (R100). -/
def execMux (g : Fin 2) (a : Fin 6) (s : State) : Host.Outcome State Fault Refusal :=
  .next { s with primOut := .channel (mux s.ch g a) }
/-- CVT8(v) (R101). -/
def execCvt8 (v : Chan) (s : State) : Host.Outcome State Fault Refusal :=
  .next { s with primOut := .byte (cvt8 v) }
/-- CVT16(v), low byte then high byte (R102). -/
def execCvt16 (v : Chan) (s : State) : Host.Outcome State Fault Refusal :=
  .next { s with primOut := .bytes (cvt16Lo v) (cvt16Hi v) }
/-- BTN (R103). -/
def execBtn (s : State) : Host.Outcome State Fault Refusal :=
  .next { s with primOut := .byte btnByte }
/-- BUILD(g) (R104). -/
def execBuild (g : Fin 2) (s : State) : Host.Outcome State Fault Refusal :=
  .next (build (modeOfWord s.mode) g s)
/-- DELIVER(g) (R113). -/
def execDeliver (g : Fin 2) (s : State) : Host.Outcome State Fault Refusal :=
  .next (deliver (modeOfWord s.mode) g s)

end Sys2Proof.Machine
end

