-- ==== Sys2Proof/Machine/Dispatch.lean ====
section
/-! DEFINITION. The meaning of every operation, one arm per row of the opcode table. -/

namespace Sys2Proof.Machine

def exec (i : Instr) (s : State) : Host.Outcome State Fault Refusal :=
  match i with
  | .cfgS8 => Sys2Proof.Machine.execCfgS8 s
  | .cfgS16 => Sys2Proof.Machine.execCfgS16 s
  | .cfgD8 => Sys2Proof.Machine.execCfgD8 s
  | .cfgD16 => Sys2Proof.Machine.execCfgD16 s
  | .cfgS7 => Sys2Proof.Machine.execCfgS7 s
  | .cfgS15 => Sys2Proof.Machine.execCfgS15 s
  | .cfgD7 => Sys2Proof.Machine.execCfgD7 s
  | .cfgD15 => Sys2Proof.Machine.execCfgD15 s
  | .drop mmm chv => Sys2Proof.Machine.execDrop mmm chv s
  | .encS8 chv => Sys2Proof.Machine.execEncS8 chv s
  | .encS16 chv => Sys2Proof.Machine.execEncS16 chv s
  | .encD8 chv => Sys2Proof.Machine.execEncD8 chv s
  | .encD16 chv => Sys2Proof.Machine.execEncD16 chv s
  | .encS7 chv => Sys2Proof.Machine.execEncS7 chv s
  | .encS15 chv => Sys2Proof.Machine.execEncS15 chv s
  | .encD7 chv => Sys2Proof.Machine.execEncD7 chv s
  | .encD15 chv => Sys2Proof.Machine.execEncD15 chv s
  | .mux g a => Sys2Proof.Machine.execMux g a s
  | .cvt8 v => Sys2Proof.Machine.execCvt8 v s
  | .cvt16 v => Sys2Proof.Machine.execCvt16 v s
  | .btn => Sys2Proof.Machine.execBtn s
  | .build g => Sys2Proof.Machine.execBuild g s
  | .deliver g => Sys2Proof.Machine.execDeliver g s
  | .disconnect => Sys2Proof.Machine.execDisconnect s
  | .connect => Sys2Proof.Machine.execConnect s
  | .reset => Sys2Proof.Machine.execReset s

end Sys2Proof.Machine
end

