-- ==== Sys2Proof/Machine/Fetch.lean ====
section
/-! DEFINITION. How the next operation reaches the block: the code of a request, the taking of the oldest pending
request, what an undefined mode value does, and how a bare table word is presented. Rules R63, R65, R110, R142 of
spec/, and log 1, 2, 10, 15. -/

namespace Sys2Proof.Machine

/-- Both checks of UPDATE pass: no fault, and a mode is active (R110). -/
def State.updateChecksPass (s : State) : Bool := s.fault == 0#2 && s.configured

/-- The dispatch word `(c, MODE)` of an UPDATE, with `c` the one sample of CONNECTED at bit 3 (R63, R111). An
UPDATE that fails a check reads neither CONNECTED nor MODE; the word 0 stands, and the checks of every UPD row
come first, so it is never acted on (log 10). -/
def State.dispatchWord (s : State) : Nat :=
  if s.updateChecksPass then (if s.connected then 8 else 0) + s.mode.toNat else 0

/-- The code of a request in a state (R60): the state is looked at only to dispatch an UPDATE. -/
def Request.code (r : Request) (s : State) : Code :=
  match r with
  | .configure raw => ⟨.cfg, raw, 0⟩
  | .update ch_i => ⟨.upd, s.dispatchWord, ch_i⟩
  | .reset => ⟨.rst, 0, 0⟩
  | .setConnected v => ⟨.env, v.toNat, 0⟩

/-- Take the oldest pending request; none when the block is idle (R33, R135). -/
def fetch (s : State) : Option (Code × State) :=
  match s.pending with
  | [] => none
  | r :: rest => some (r.code s, { s with pending := rest })

/-- What a coded operation that is no row of the table does: an undefined mode value is a CONFIGURE all the same,
with the checks of R84 in their order, and ends in InvalidMode (R65, R142, R145); any other malformed code is
refused by name (no request has one). -/
def rejectCode (e : DecodeError) (s : State) : Host.Outcome State Fault Refusal :=
  match e with
  | .undefinedMode w => .next (configure w s)
  | e => .refused (.badCode e)

/-- The request that presents a bare table word: a CONFIGURE with that mode word, an UPDATE with `ch_i = 0`, a
write of CONNECTED, or RESET. -/
def tableRequest (nbits w : Nat) : Request :=
  match tableFormat nbits w with
  | .upd => .update 0
  | .env => .setConnected (BitVec.ofNat 1 w)
  | .rst => .reset
  | _ => .configure w

/-- What must hold for an UPDATE to decode the dispatch word `w`: both checks pass, CONNECTED is bit 3 and MODE the
low three bits (R63); other formats need nothing (log 2). -/
def readyFor (nbits w : Nat) (s : State) : State :=
  match tableFormat nbits w with
  | .upd => { s with mode := BitVec.ofNat 3 w, connected := w.testBit 3, configured := true, fault := 0 }
  | _ => s

end Sys2Proof.Machine
end

