-- ==== Sys2Proof/Machine/Step.lean ====
section
/-! DEFINITION. One step: the block takes the oldest pending operation, decodes it and executes it, atomically
(R9); with nothing pending it is idle and holds its state (R33, R135, R156). -/

namespace Sys2Proof.Machine

/-- One step of the machine. -/
def step (s : State) : Host.Outcome State Fault Refusal :=
  match fetch s with
  | none => .next s
  | some (c, s') =>
    match decode c with
    | .ok i => exec i s'
    | .error e => rejectCode e s'

/-- `s` with a bare table word presented as the next operation, ahead of everything pending (log 2). -/
def State.withFetchWord (s : State) (nbits w : Nat) : State :=
  { readyFor nbits w s with pending := tableRequest nbits w :: s.pending }

end Sys2Proof.Machine
end

