-- ==== Sys2Proof/Machine/Descriptor.lean ====
section
/-! DEFINITION. What the spec fixes of a mode's descriptor (R66, R83, R93): the content record of each mode, and the
law that ties the open parameter DESC to it. The law needs a reading of HID bytes; the source has none, so the
reading is that of spec/93_implementation_defined.md G3 (PRESUMED, log 12). No operation of the machine reads a
descriptor's bytes; the machine publishes DESC whatever it is. -/

namespace Sys2Proof.Machine

/-- The axis usages, in declaration order X, Y, Z, rX, rY, rZ (R66). -/
inductive AxisUsage where
  | x | y | z | rx | ry | rz
  deriving DecidableEq, Repr

/-- One field declaration: usages are given by the collection; logical range, bits per field, number of fields. -/
structure FieldDecl where
  lmin  : Int
  lmax  : Int
  size  : Nat
  count : Nat
  deriving DecidableEq, Repr

/-- One top-level Gamepad application collection (Generic Desktop page, Gamepad usage): its Report ID, the button
usages from `usageMin` to `usageMax` with their field declaration, and the axis usages with theirs (R66). -/
structure GamepadCollection where
  reportId : Nat
  usageMin : Nat
  usageMax : Nat
  buttons  : FieldDecl
  usages   : List AxisUsage
  axes     : FieldDecl
  deriving DecidableEq, Repr

/-- `DCONTENT(m)`: one collection for each report of the mode, collection `j` with Report ID `j + 1` (R66). -/
def descriptorContent (m : Mode) : List GamepadCollection :=
  (gamepadIndices (reportCount m)).map fun j =>
    { reportId := j.val + 1, usageMin := 1, usageMax := 8, buttons := ⟨0, 1, 1, 8⟩,
      usages := [.x, .y, .z, .rx, .ry, .rz],
      axes := ⟨(rangeFor m).1, (rangeFor m).2, axisWidth m, 6⟩ }

/-! ### Reading descriptor bytes (G3) -/

/-- The short items of G3. -/
inductive HidItem where
  | usagePage (n : Nat) | usage (n : Nat) | collection (n : Nat) | endCollection | reportId (n : Nat)
  | usageMin (n : Nat) | usageMax (n : Nat) | logicalMin (z : Int) | logicalMax (z : Int)
  | reportSize (n : Nat) | reportCount (n : Nat) | input (n : Nat)
  deriving DecidableEq, Repr

/-- A one-byte item by its first byte. -/
def shortItem (tag b : Byte) : Option HidItem :=
  match tag.toNat with
  | 0x05 => some (.usagePage b.toNat)
  | 0x09 => some (.usage b.toNat)
  | 0xA1 => some (.collection b.toNat)
  | 0x85 => some (.reportId b.toNat)
  | 0x19 => some (.usageMin b.toNat)
  | 0x29 => some (.usageMax b.toNat)
  | 0x15 => some (.logicalMin b.toInt)
  | 0x25 => some (.logicalMax b.toInt)
  | 0x75 => some (.reportSize b.toNat)
  | 0x95 => some (.reportCount b.toNat)
  | 0x81 => some (.input b.toNat)
  | _ => none

/-- A two-byte item by its first byte; the value is little-endian and signed. -/
def longItem (tag lo hi : Byte) : Option HidItem :=
  match tag.toNat with
  | 0x16 => some (.logicalMin (hi ++ lo).toInt)
  | 0x26 => some (.logicalMax (hi ++ lo).toInt)
  | _ => none

/-- The items of a byte string; `fuel` bounds their number. -/
def readItems : Nat → List Byte → Option (List HidItem)
  | 0, _ => none
  | _ + 1, [] => some []
  | fuel + 1, tag :: rest =>
    if tag = 0xC0 then (readItems fuel rest).map (HidItem.endCollection :: ·)
    else match rest with
      | [] => none
      | b :: rest1 =>
        match shortItem tag b with
        | some item => (readItems fuel rest1).map (item :: ·)
        | none =>
          match rest1 with
          | [] => none
          | hi :: rest2 =>
            match longItem tag b hi with
            | some item => (readItems fuel rest2).map (item :: ·)
            | none => none

/-- An axis usage by its code `30` to `35`. -/
def axisUsage : HidItem → Option AxisUsage
  | .usage 0x30 => some .x
  | .usage 0x31 => some .y
  | .usage 0x32 => some .z
  | .usage 0x33 => some .rx
  | .usage 0x34 => some .ry
  | .usage 0x35 => some .rz
  | _ => none

/-- A field declaration: logical minimum and maximum, report size and count, then Input (data, variable,
absolute). -/
def readField : List HidItem → Option (FieldDecl × List HidItem)
  | .logicalMin lo :: .logicalMax hi :: .reportSize n :: .reportCount k :: .input 2 :: rest =>
    some (⟨lo, hi, n, k⟩, rest)
  | _ => none

/-- Six axis usages. -/
def readAxisUsages : Nat → List HidItem → Option (List AxisUsage × List HidItem)
  | 0, rest => some ([], rest)
  | n + 1, item :: rest =>
    match axisUsage item, readAxisUsages n rest with
    | some u, some (us, rest') => some (u :: us, rest')
    | _, _ => none
  | _ + 1, [] => none

/-- One collection, in the order of R66. -/
def readCollection : List HidItem → Option (GamepadCollection × List HidItem)
  | .usagePage 1 :: .usage 5 :: .collection 1 :: .reportId r :: .usagePage 9 :: .usageMin u0 :: .usageMax u1 ::
      rest =>
    match readField rest with
    | some (buttons, .usagePage 1 :: rest1) =>
      match readAxisUsages 6 rest1 with
      | some (us, rest2) =>
        match readField rest2 with
        | some (axes, .endCollection :: rest3) => some (⟨r, u0, u1, buttons, us, axes⟩, rest3)
        | _ => none
      | none => none
    | _ => none
  | _ => none

/-- The collections of an item list; `fuel` bounds their number. -/
def readCollections : Nat → List HidItem → Option (List GamepadCollection)
  | _, [] => some []
  | 0, _ :: _ => none
  | fuel + 1, item :: rest =>
    match readCollection (item :: rest) with
    | some (c, rest') => (readCollections fuel rest').map (c :: ·)
    | none => none

/-- The content a descriptor byte string spells. -/
def readDescriptor (bytes : List Byte) : Option (List GamepadCollection) :=
  match readItems (bytes.length + 1) bytes with
  | some items => readCollections 2 items
  | none => none

/-- The law on the parameter DESC: the bytes of every mode spell that mode's content (R83, R93). -/
def DescriptorLaw (desc : Mode → List Byte) : Prop :=
  ∀ m, readDescriptor (desc m) = some (descriptorContent m)

/-! ### The candidate of spec/93_implementation_defined.md section 3 (non-normative) -/

/-- The axis items of a mode. -/
def candidateAxisItems : Mode → List Byte
  | .s8 | .d8 => [0x15, 0x81, 0x25, 0x7F, 0x75, 0x08]
  | .s16 | .d16 => [0x16, 0x01, 0x80, 0x26, 0xFF, 0x7F, 0x75, 0x10]
  | .s7 | .d7 => [0x15, 0x00, 0x25, 0x7F, 0x75, 0x08]
  | .s15 | .d15 => [0x15, 0x00, 0x26, 0xFF, 0x7F, 0x75, 0x10]

/-- One candidate collection. -/
def candidateCollection (m : Mode) (reportId : Byte) : List Byte :=
  [0x05, 0x01, 0x09, 0x05, 0xA1, 0x01, 0x85, reportId, 0x05, 0x09, 0x19, 0x01, 0x29, 0x08] ++
  [0x15, 0x00, 0x25, 0x01, 0x75, 0x01, 0x95, 0x08, 0x81, 0x02, 0x05, 0x01] ++
  [0x09, 0x30, 0x09, 0x31, 0x09, 0x32, 0x09, 0x33, 0x09, 0x34, 0x09, 0x35] ++
  candidateAxisItems m ++ [0x95, 0x06, 0x81, 0x02, 0xC0]

/-- The candidate descriptors: a value of DESC to show the law can be met, used by no operation. -/
def candidateDesc (m : Mode) : List Byte :=
  (gamepadIndices (reportCount m)).flatMap fun j => candidateCollection m (BitVec.ofNat 8 (j.val + 1))

end Sys2Proof.Machine
end

