-- ==== Sys2Proof/Machine/Ports.lean ====
section
/-! DEFINITION. The ports of R67: one transaction at the inputs and the order in which the block serves it, the
status outputs, the descriptor read port, and the packing of the output events. An output that the spec lets show
any value shows a free value that depends on the moment it is looked at (log 14). -/

namespace Sys2Proof.Machine

/-- The input ports in one transaction (R67); `cfg_mode_i` has the three bits of MODE_W. -/
structure PortInputs where
  rst_i       : Bool
  cfg_valid_i : Bool
  cfg_mode_i  : BitVec 3
  upd_valid_i : Bool
  ch_i        : BitVec 192
  connected_i : Bool
  deriving DecidableEq, Repr

/-- The operations of one transaction, in the order they are served: the level of `connected_i` is the
environment's and stands first (log 16); RESET wins over CONFIGURE and UPDATE, which are lost; CONFIGURE is served
before UPDATE (R145, D22). -/
def PortInputs.requests (p : PortInputs) : List Request :=
  .setConnected (BitVec.ofBool p.connected_i) ::
    (if p.rst_i then [.reset]
     else (if p.cfg_valid_i then [.configure p.cfg_mode_i.toNat] else []) ++
       (if p.upd_valid_i then [.update p.ch_i] else []))

/-- Present one transaction, after everything already pending. -/
def State.present (s : State) (p : PortInputs) : State := { s with pending := s.pending ++ p.requests }

/-- The status outputs (R67, R135). -/
structure StatusOutputs where
  configured_o : BitVec 1
  fault_o      : BitVec 2
  mode_o       : BitVec 3
  deriving DecidableEq, Repr

/-- The status outputs at a moment; `mode_o` shows any value while CONFIGURED = 0. -/
def State.statusOutputs (s : State) (moment : Nat) : StatusOutputs where
  configured_o := BitVec.ofBool s.configured
  fault_o := s.fault
  mode_o := if s.configured then s.mode else Config.anyModeO moment

/-- `desc_data_o` for the offset on `desc_addr_i`: the byte of DESC(MODE), any value at or beyond its length or
while CONFIGURED = 0. A read changes nothing (R47). -/
def State.descDataO (s : State) (desc_addr_i : BitVec Config.descAw) (moment : Nat) : Byte :=
  if s.configured then
    ((descriptorFor (modeOfWord s.mode))[desc_addr_i.toNat]?).getD (Config.anyDescData moment)
  else Config.anyDescData moment

/-- `desc_len_o`: the length of DESC(MODE), which DESC_AW + 1 bits hold (`Config.length_desc_le`); any value while
CONFIGURED = 0. -/
def State.descLenO (s : State) (moment : Nat) : BitVec (Config.descAw + 1) :=
  if s.configured then BitVec.ofNat _ (descriptorFor (modeOfWord s.mode)).length
  else BitVec.ofNat _ (Config.anyDescLen moment)

/-- The report port while `rpt_valid_o` is asserted (R67). -/
structure ReportPort where
  rpt_index_o : BitVec 1
  rpt_len_o   : BitVec 4
  rpt_data_o  : BitVec 104
  deriving DecidableEq, Repr

/-- Bytes as one number, byte 0 lowest. -/
def packBytes : List Byte → Nat
  | [] => 0
  | b :: bs => b.toNat + 256 * packBytes bs

/-- The report port for an event: none (so `rpt_valid_o` is 0) unless it is a Deliver; byte `k` is
`rpt_data_o[8*k + 7 : 8*k]`, and the bits beyond the report carry any value. -/
def Event.reportPort (e : Event) (moment : Nat) : Option ReportPort :=
  match e with
  | .publish _ _ => none
  | .deliver g bytes => some
      { rpt_index_o := BitVec.ofNat 1 g.val
        rpt_len_o := BitVec.ofNat 4 bytes.length
        rpt_data_o := BitVec.ofNat 104 (packBytes bytes) ||| (Config.anyRptData moment <<< (8 * bytes.length)) }

/-- `pub_mode_o` for an event: none (so `pub_valid_o` is 0) unless it is a Publish. -/
def Event.publishPort (e : Event) : Option (BitVec 3) :=
  match e with
  | .publish w _ => some w
  | .deliver _ _ => none

/-- What the report sink of gamepad index `g` has received, oldest first: each gamepad has its own sink (R133). -/
def State.sink (s : State) (g : Fin 2) : List (List Byte) :=
  s.events.filterMap fun e =>
    match e with
    | .deliver g' bytes => if g' = g then some bytes else none
    | .publish _ _ => none

/-- What the collaborator has received, oldest first (R133). -/
def State.collaborator (s : State) : List (BitVec 3 × List Byte) :=
  s.events.filterMap fun e =>
    match e with
    | .publish w d => some (w, d)
    | .deliver _ _ => none

end Sys2Proof.Machine
end

