-- ==== Sys2Proof/Machine/Text.lean ====
section
/-! DEFINITION. The line syntax of R68: the operations a caller writes, their expansion to requests, the text of
operations, output events and faults, and the reading of lines. No operation of the machine reads a line. -/

namespace Sys2Proof.Machine

/-- The source's name of a mode (R12). -/
def modeName : Mode → String
  | .s8 => "SINGLE_8BIT"
  | .s16 => "SINGLE_16BIT"
  | .d8 => "DUAL_8BIT"
  | .d16 => "DUAL_16BIT"
  | .s7 => "SINGLE_7BIT"
  | .s15 => "SINGLE_15BIT"
  | .d7 => "DUAL_7BIT"
  | .d15 => "DUAL_15BIT"

/-- The lines of R68; `configureRaw` is the raw decimal operand of a port wider than 3 bits. -/
inductive Line where
  | reset
  | configure (m : Mode)
  | configureRaw (w : Nat)
  | connect
  | disconnect
  | update (c : Vector Int 12)
  | update1 (c : Vector Int 6)
  deriving DecidableEq, Repr

/-- A channel value that can be written: `-32768 .. 32767`. -/
def writable (z : Int) : Bool := decide (-32768 ≤ z ∧ z ≤ 32767)

/-- Every value of the line can be written (R68, R148). -/
def Line.valid : Line → Bool
  | .update c => c.toList.all writable
  | .update1 c => c.toList.all writable
  | _ => true

/-- `UPDATE1 [c0, ..., c5]` expands to UPDATE with zeros in channels 6 to 11 (R68). -/
def update1Channels (v : Vector Int 6) : Vector Int 12 :=
  #v[v[0], v[1], v[2], v[3], v[4], v[5], 0, 0, 0, 0, 0, 0]

/-- `c<i>` becomes CH[i]. -/
def channelsOfInts (v : Vector Int 12) : ChannelVector :=
  #v[.ofInt 16 v[0], .ofInt 16 v[1], .ofInt 16 v[2], .ofInt 16 v[3], .ofInt 16 v[4], .ofInt 16 v[5],
     .ofInt 16 v[6], .ofInt 16 v[7], .ofInt 16 v[8], .ofInt 16 v[9], .ofInt 16 v[10], .ofInt 16 v[11]]

/-- The request a line stands for. -/
def Line.request : Line → Request
  | .reset => .reset
  | .configure m => .configure (wordOfMode m).toNat
  | .configureRaw w => .configure w
  | .connect => .setConnected 1
  | .disconnect => .setConnected 0
  | .update c => .update (busOfChannels (channelsOfInts c))
  | .update1 c => .update (busOfChannels (channelsOfInts (update1Channels c)))

/-- Texts separated by a comma and a space. -/
def commaSeparated : List String → String
  | [] => ""
  | [x] => x
  | x :: y :: rest => x ++ ", " ++ commaSeparated (y :: rest)

/-- The text of a line. -/
def Line.text : Line → String
  | .reset => "RESET"
  | .configure m => "CONFIGURE " ++ modeName m
  | .configureRaw w => "CONFIGURE " ++ toString w
  | .connect => "CONNECT"
  | .disconnect => "DISCONNECT"
  | .update c => "UPDATE [" ++ commaSeparated (c.toList.map toString) ++ "]"
  | .update1 c => "UPDATE1 [" ++ commaSeparated (c.toList.map toString) ++ "]"

/-- A hexadecimal digit. -/
def hexDigit (n : Nat) : String :=
  (["0", "1", "2", "3", "4", "5", "6", "7", "8", "9", "A", "B", "C", "D", "E", "F"][n]?).getD "?"

/-- A byte in hexadecimal. -/
def hexByte (b : Byte) : String := "0x" ++ hexDigit (b.toNat / 16) ++ hexDigit (b.toNat % 16)

/-- The text of an output event: `PUBLISH <mode>` or `DELIVER <g> [b0, b1, ...]`. -/
def Event.text : Event → String
  | .publish w _ => "PUBLISH " ++ modeName (modeOfWord w)
  | .deliver g bytes => "DELIVER " ++ toString g.val ++ " [" ++ commaSeparated (bytes.map hexByte) ++ "]"

/-- The text of a fault: `FAULT <cause>` (R68, R141). -/
def Cause.text : Cause → String
  | .invalidMode => "FAULT InvalidMode"
  | .reconfigure => "FAULT Reconfigure"
  | .notConfigured => "FAULT NotConfigured"

/-! ### Reading lines

A line is read as a list of characters. What cannot be written in the syntax has no reading. -/

/-- The text before the first `;`: everything after it is a comment. -/
def withoutComment (text : List Char) : List Char := text.takeWhile (fun k => k != ';')

/-- The text without the spaces around it. -/
def trimmed (text : List Char) : List Char :=
  ((text.dropWhile (fun k => k == ' ')).reverse.dropWhile (fun k => k == ' ')).reverse

/-- The first word, and what follows it. -/
def firstWord (text : List Char) : String × List Char :=
  (String.ofList (text.takeWhile (fun k => k != ' ')), trimmed (text.dropWhile (fun k => k != ' ')))

/-- The pieces between commas. -/
def piecesOf : List Char → List (List Char)
  | [] => [[]]
  | k :: rest =>
    if k == ',' then [] :: piecesOf rest
    else match piecesOf rest with
      | [] => [[k]]
      | piece :: more => (k :: piece) :: more

/-- The value of a decimal digit. -/
def digitOf (k : Char) : Option Nat :=
  if 48 ≤ k.toNat ∧ k.toNat ≤ 57 then some (k.toNat - 48) else none

/-- An unsigned decimal value read on from `acc`. -/
def digitsOf : Nat → List Char → Option Nat
  | acc, [] => some acc
  | acc, k :: rest =>
    match digitOf k with
    | some d => digitsOf (10 * acc + d) rest
    | none => none

/-- An unsigned decimal value. -/
def naturalOf (text : List Char) : Option Nat := if text.isEmpty then none else digitsOf 0 text

/-- A signed decimal value. -/
def integerOf (text : List Char) : Option Int :=
  match text with
  | '-' :: rest => (naturalOf rest).map (fun n => - (n : Int))
  | _ => (naturalOf text).map (fun n => (n : Int))

/-- Every piece as a signed value. -/
def integersOf : List (List Char) → Option (List Int)
  | [] => some []
  | piece :: more =>
    match integerOf (trimmed piece), integersOf more with
    | some z, some zs => some (z :: zs)
    | _, _ => none

/-- The values of a bracketed list. -/
def bracketed (text : List Char) : Option (List Int) :=
  match text with
  | '[' :: rest =>
    match rest.reverse with
    | ']' :: inner => integersOf (piecesOf inner.reverse)
    | _ => none
  | _ => none

/-- A mode by its name (R12). -/
def modeNamed (name : String) : Option Mode :=
  [Mode.s8, .s16, .d8, .d16, .s7, .s15, .d7, .d15].find? (fun m => modeName m == name)

/-- The line that a text of one line writes, if it writes one (R68): exactly twelve values for UPDATE, six for
UPDATE1, each in `-32768 .. 32767`; a raw operand of CONFIGURE is an unsigned decimal value. -/
def lineOfText (text : List Char) : Option Line :=
  let word := firstWord (trimmed (withoutComment text))
  let found : Option Line :=
    match word.1, word.2 with
    | "RESET", [] => some .reset
    | "CONNECT", [] => some .connect
    | "DISCONNECT", [] => some .disconnect
    | "CONFIGURE", operand =>
      match modeNamed (String.ofList operand) with
      | some m => some (.configure m)
      | none => (naturalOf operand).map Line.configureRaw
    | "UPDATE", operand =>
      match bracketed operand with
      | some [c0, c1, c2, c3, c4, c5, c6, c7, c8, c9, c10, c11] =>
        some (.update #v[c0, c1, c2, c3, c4, c5, c6, c7, c8, c9, c10, c11])
      | _ => none
    | "UPDATE1", operand =>
      match bracketed operand with
      | some [c0, c1, c2, c3, c4, c5] => some (.update1 #v[c0, c1, c2, c3, c4, c5])
      | _ => none
    | _, _ => none
  found.filter Line.valid

/-- The requests of a program, one line each; a line with nothing before its comment is passed over, and a program
with a line that writes no operation has no reading. -/
def requestsOfProgram : List (List Char) → Option (List Request)
  | [] => some []
  | text :: more =>
    match requestsOfProgram more with
    | none => none
    | some rs =>
      if (trimmed (withoutComment text)).isEmpty then some rs
      else (lineOfText text).map (fun l => l.request :: rs)

end Sys2Proof.Machine
end

