-- ==== Sys2Proof/Machine/Contract.lean ====
section
/-! DEFINITION. The spec's pure contracts, which claims compare the machine with: `encode` of R123, UPDATE as one
piece of pseudocode (R110), and the block with no channel latches and no report buffers, which R21 and R26 say is
observationally equal. No operation of the machine calls anything of this file. -/

namespace Sys2Proof.Machine

/-- `field(m, v)` (R123). -/
def fieldBytes (m : Mode) (v : Chan) : List Byte :=
  if axisWidth m = 8 then [v.extractLsb' 8 8] else [v.extractLsb' 0 8, v.extractLsb' 8 8]

/-- `report(m, ch, g)` (R123). -/
def contractReport (m : Mode) (ch : ChannelVector) (g : Fin 2) : List Byte :=
  0x00 :: axisIndices.flatMap (fun a => fieldBytes m ch[channelIndex g a])

/-- `encode(m, ch, c)` (R123). -/
def encodeContract (m : Mode) (ch : ChannelVector) (c : Bool) : List (Fin 2 × List Byte) :=
  if c then (gamepadIndices (reportCount m)).map (fun g => (g, contractReport m ch g)) else []

/-- The output events of a sequence of (report index, bytes). -/
def deliverEvents (out : List (Fin 2 × List Byte)) : List Event := out.map (fun p => .deliver p.1 p.2)

/-- UPDATE(chv) as R110's pseudocode has it, with CONNECTED and MODE read from the state and the loop bound
`NREP(MODE)`. -/
def updateAsWritten (chv : ChannelVector) (s : State) : State :=
  if s.fault ≠ 0#2 then s
  else if s.configured = false then raiseFault .notConfigured s
  else
    let s1 := capture chv s
    let c := s1.connected
    if c = false then s1
    else reportLoop (modeOfWord s1.mode) (gamepadIndices (reportCount (modeOfWord s1.mode))) s1

/-- The block without CH and RB: the active mode if there is one, the fault latch, and the environment's bit
(R21, R26, R31). -/
structure Abstract where
  active    : Option Mode
  fault     : BitVec 2
  connected : Bool
  deriving DecidableEq, Repr

/-- What the abstract block keeps of a state. -/
def State.abstract (s : State) : Abstract where
  active := if s.configured then some (modeOfWord s.mode) else none
  fault := s.fault
  connected := s.connected

/-- One operation of the abstract block and the events it emits (R84, R110, R123, R130, R131, R145, R147, R160). -/
def Abstract.step (r : Request) (a : Abstract) : Abstract × List Event :=
  match r with
  | .setConnected v => ({ a with connected := v == 1 }, [])
  | .reset => ({ a with active := none, fault := 0 }, [])
  | .configure raw =>
    if a.fault ≠ 0#2 then (a, [])
    else match a.active with
      | some _ => ({ a with fault := 2 }, [])
      | none =>
        if 8 ≤ raw then ({ a with fault := 1 }, [])
        else
          ({ a with active := some (modeOfWord (BitVec.ofNat 3 raw)) },
            [.publish (BitVec.ofNat 3 raw) (Config.desc (modeOfWord (BitVec.ofNat 3 raw)))])
  | .update ch_i =>
    if a.fault ≠ 0#2 then (a, [])
    else match a.active with
      | none => ({ a with fault := 3 }, [])
      | some m => (a, deliverEvents (encodeContract m (channelsOfBus ch_i) a.connected))

/-- A sequence of operations of the abstract block. -/
def Abstract.run : List Request → Abstract → Abstract × List Event
  | [], a => (a, [])
  | r :: rs, a =>
    let one := Abstract.step r a
    let more := Abstract.run rs one.1
    (more.1, one.2 ++ more.2)

end Sys2Proof.Machine
end

