-- ==== Sys2Proof/Safety.lean ====
section
/-! DEFINITION. The terms claims are stated in: a good state, what the caller owes, which traces of output events
are coherent, and the invariant that every step keeps. -/

namespace Sys2Proof.Machine

/-- A state of a good run: no fault is latched (R135). -/
def State.good (s : State) : Prop := s.fault = 0#2

/-- Phase READY (R28): no fault, and a mode is active. -/
def State.ready (s : State) : Prop := s.fault = 0#2 ∧ s.configured = true

/-- Phase UNCONFIGURED (R28): no fault, and no mode is active. -/
def State.unconfigured (s : State) : Prop := s.fault = 0#2 ∧ s.configured = false

/-- What the caller owes of a vector under mode `m`, and the block does not check: zero in the channels a single
mode does not use (R165), nothing negative in the unsigned-range modes (R166). -/
def callerObeys (m : Mode) (chv : ChannelVector) : Prop :=
  (reportCount m = 1 → ∀ i : Fin 12, 6 ≤ i.val → chv[i] = 0) ∧
  ((rangeFor m).1 = 0 → ∀ i : Fin 12, 0 ≤ chv[i].toInt)

/-- The events a step added. -/
def emitted (s t : State) : List Event := t.events.drop s.events.length

/-! ### Words for statements -/

/-- The high byte of a channel pattern, `bits(v)[15:8]`. -/
def hiByte (v : Chan) : Byte := v.extractLsb' 8 8

/-- The low byte of a channel pattern, `bits(v)[7:0]`. -/
def loByte (v : Chan) : Byte := v.extractLsb' 0 8

/-- A 7-byte report of six channels, written out (R41). -/
def report8 (x y z rx ry rz : Chan) : List Byte :=
  [0x00, hiByte x, hiByte y, hiByte z, hiByte rx, hiByte ry, hiByte rz]

/-- A 13-byte report of six channels, written out (R42). -/
def report16 (x y z rx ry rz : Chan) : List Byte :=
  [0x00, loByte x, hiByte x, loByte y, hiByte y, loByte z, hiByte z,
   loByte rx, hiByte rx, loByte ry, hiByte ry, loByte rz, hiByte rz]

/-- Buffer `r` holds `bytes` from offset 0 and, beyond them, what `old` held. -/
def holds (r old : Report) (bytes : List Byte) : Prop :=
  ∀ k, (h : k < 13) → r[k] = (bytes[k]?).getD old[k]

/-- The CONFIGURE row of a mode (R85 to R92). -/
def configureRow : Mode → Instr
  | .s8 => .cfgS8
  | .s16 => .cfgS16
  | .d8 => .cfgD8
  | .d16 => .cfgD16
  | .s7 => .cfgS7
  | .s15 => .cfgS15
  | .d7 => .cfgD7
  | .d15 => .cfgD15

/-- The encoding row of a mode (R115 to R122). -/
def encodingRow (chv : ChannelVector) : Mode → Instr
  | .s8 => .encS8 chv
  | .s16 => .encS16 chv
  | .d8 => .encD8 chv
  | .d16 => .encD16 chv
  | .s7 => .encS7 chv
  | .s15 => .encS15 chv
  | .d7 => .encD7 chv
  | .d15 => .encD15 chv

/-! ### Coherent traces (R52, R53, R94, R111, R114) -/

/-- Where a trace stands: nothing published yet; a descriptor published and no report owed; report 0 of a dual
update delivered and report 1 owed. -/
inductive TraceState where
  | silent
  | open (m : Mode)
  | owed (m : Mode)
  deriving DecidableEq, Repr

/-- The bytes have the form of a report of mode `m`: the right length, the button byte first (R41, R42, R103). -/
def isReportOf (m : Mode) (bytes : List Byte) : Prop :=
  bytes.length = reportLength m ∧ bytes.head? = some 0

/-- One event of a coherent trace, from `a` to `b`: a Publish carries the descriptor of its mode and is never
between the two reports of an update; a Deliver follows the Publish of the mode whose layout it has; a dual mode
delivers 0 and then 1; a single mode delivers 0 only. -/
def TraceState.follows (a : TraceState) (e : Event) (b : TraceState) : Prop :=
  match e with
  | .publish w d =>
    d = Config.desc (modeOfWord w) ∧ (∀ m, a ≠ .owed m) ∧ b = .open (modeOfWord w)
  | .deliver g bytes =>
    match a with
    | .silent => False
    | .open m => g = 0 ∧ isReportOf m bytes ∧ b = if reportCount m = 2 then .owed m else .open m
    | .owed m => g = 1 ∧ isReportOf m bytes ∧ b = .open m

/-- A trace leads from `a` to `b`. -/
def TraceState.after : TraceState → List Event → TraceState → Prop
  | a, [], b => a = b
  | a, e :: es, b => ∃ c, a.follows e c ∧ c.after es b

/-- The invariant: the trace is coherent and owes no report; while a mode is active the last descriptor published
is that mode's; Reconfigure is latched only while a mode is active, InvalidMode and NotConfigured only while none
is (R142 to R146). -/
def State.coherent (s : State) : Prop :=
  (∃ b, TraceState.silent.after s.events b ∧ (∀ m, b ≠ .owed m) ∧
    (s.configured = true → b = .open (modeOfWord s.mode))) ∧
  (s.fault = Cause.reconfigure.code → s.configured = true) ∧
  (s.fault = Cause.invalidMode.code ∨ s.fault = Cause.notConfigured.code → s.configured = false)

end Sys2Proof.Machine
end

