-- ==== Sys2Proof/Certificates/Slice0/Obligations.lean ====
section
/-! DEFINITION. The statements for the provers. A statement whose clause rests on one of the spec's own decisions
(D<n>) or on a choice of the model (log <n>) says so. -/

open Sys2Proof Sys2Proof.Machine

/-! ### The Mode Table and the descriptor -/

/-- The eight entries of the Mode Table, by mode word: name, axis width, logical range, reports, report length
(R80; the mode word is D2, R61). -/
def Obligations.ModeTableEntries : Prop :=
  (modeOfWord 0 = .s8 ∧ modeParams .s8 = ⟨8, -127, 127, 1, 7⟩) ∧
  (modeOfWord 1 = .s16 ∧ modeParams .s16 = ⟨16, -32767, 32767, 1, 13⟩) ∧
  (modeOfWord 2 = .d8 ∧ modeParams .d8 = ⟨8, -127, 127, 2, 7⟩) ∧
  (modeOfWord 3 = .d16 ∧ modeParams .d16 = ⟨16, -32767, 32767, 2, 13⟩) ∧
  (modeOfWord 4 = .s7 ∧ modeParams .s7 = ⟨8, 0, 127, 1, 7⟩) ∧
  (modeOfWord 5 = .s15 ∧ modeParams .s15 = ⟨16, 0, 32767, 1, 13⟩) ∧
  (modeOfWord 6 = .d7 ∧ modeParams .d7 = ⟨8, 0, 127, 2, 7⟩) ∧
  (modeOfWord 7 = .d15 ∧ modeParams .d15 = ⟨16, 0, 32767, 2, 13⟩)

/-- Every attribute of a mode is a function of one field of its word, and words and modes are in bijection (R62, on
the numbering D2). -/
def Obligations.ModeWordFieldsGiveAttributes : Prop :=
  (∀ w : BitVec 3,
    axisWidth (modeOfWord w) = (if fieldW w then 16 else 8) ∧
    reportLength (modeOfWord w) = (if fieldW w then 13 else 7) ∧
    reportCount (modeOfWord w) = (if fieldD w then 2 else 1) ∧
    (rangeFor (modeOfWord w)).2 = (if fieldW w then 32767 else 127) ∧
    (rangeFor (modeOfWord w)).1 = (if fieldU w then 0 else - (rangeFor (modeOfWord w)).2) ∧
    paramsFor (modeOfWord w) = (axisWidth (modeOfWord w), reportCount (modeOfWord w)) ∧
    wordOfMode (modeOfWord w) = w) ∧
  (∀ m : Mode, modeOfWord (wordOfMode m) = m)

/-- The report count is `1 + mode[1]`; the reviewed code's formula gives 1, 1, 1, 1, 2, 2, 2, 2 and is wrong exactly
for the two dual modes and the two single modes in the middle (R95). -/
def Obligations.ReportCountIsTableColumnNotFormula : Prop :=
  ∀ w : BitVec 3,
    reportCount (modeOfWord w) = 1 + (w.getLsbD 1).toNat ∧
    ((if (w.toNat >>> 1) > 1 then 2 else 1) = (if w.toNat < 4 then 1 else 2 : Nat)) ∧
    ((if (w.toNat >>> 1) > 1 then 2 else 1) ≠ reportCount (modeOfWord w) ↔
      modeOfWord w = .d8 ∨ modeOfWord w = .d16 ∨ modeOfWord w = .s7 ∨ modeOfWord w = .s15)

/-- Any DESC that obeys the law declares, in every mode, `NREP` collections whose axis fields have that mode's range,
size and count 6, with Report IDs 1 and 2; and a descriptor determines its mode. The law reads bytes by the grammar
of G3, which is PRESUMED (log 12). -/
def Obligations.DescriptorAgreesWithModeTable : Prop :=
  ∀ desc : Mode → List Byte, DescriptorLaw desc →
    (∀ m, ∃ cs, readDescriptor (desc m) = some cs ∧ cs.length = reportCount m ∧
      cs.map (·.reportId) = (List.range (reportCount m)).map (· + 1) ∧
      ∀ c ∈ cs, c.axes = ⟨(rangeFor m).1, (rangeFor m).2, axisWidth m, 6⟩) ∧
    (∀ m m', desc m = desc m' → m = m')

/-- Every collection of every mode's content: eight buttons with usages 1 to 8, range 0 to 1 and one bit each, then
the six axis usages in order (R66; the binding of usages to positions is the spec's G2). -/
def Obligations.DescriptorContentShape : Prop :=
  ∀ m : Mode, ∀ c ∈ descriptorContent m,
    c.usageMin = 1 ∧ c.usageMax = 8 ∧ c.buttons = ⟨0, 1, 1, 8⟩ ∧ c.usages = [.x, .y, .z, .rx, .ry, .rz] ∧
    c.buttons.size * c.buttons.count + c.axes.size * c.axes.count = 8 * reportLength m

/-! ### Encoding -/

/-- Decoding the code of any operation gives it back, with every operand at every value. -/
def Obligations.DecodeEncodeRoundTrip : Prop :=
  ∀ i : Instr, decode (encode i) = .ok i

/-- Encoding what the decoder reads from a well-formed code of an issuable format gives the code back. -/
def Obligations.EncodeDecodeRoundTrip : Prop :=
  ∀ c : Code, c.wellFormed = true → (∀ p, c.fmt ≠ .prim p) → ∃ i, decode c = .ok i ∧ encode i = c

/-- Every well-formed code of an issuable format is selected by exactly one row of the opcode table, and the decoder
reads that row's operation (R61, R63: the decode is total). -/
def Obligations.ExactlyOneRowSelects : Prop :=
  ∀ c : Code, c.wellFormed = true → (∀ p, c.fmt ≠ .prim p) →
    ∃ i, decode c = .ok i ∧ issuableRows.filter (fun r => r.selects c) = [i.row]

/-- A code the decoder accepts, of any format, is of the format and row it was coded for. -/
def Obligations.DecodedRowSelectsItsCode : Prop :=
  ∀ (c : Code) (i : Instr), decode c = .ok i → i.row.selects c = true

/-- What is no row is rejected by name: an undefined mode value, a word wider than its format, a converter the mode
word does not select (R64, R65). -/
def Obligations.MalformedCodesRejectedByName : Prop :=
  (∀ w b, 8 ≤ w → decode ⟨.cfg, w, b⟩ = .error (.undefinedMode w)) ∧
  (∀ w b, 16 ≤ w → decode ⟨.upd, w, b⟩ = .error (.wordTooWide .upd w)) ∧
  (∀ w b, 2 ≤ w → decode ⟨.env, w, b⟩ = .error (.wordTooWide .env w)) ∧
  (∀ w b, w < 8 → w % 2 = 1 → decode ⟨.prim .cvt8, w, b⟩ = .error (.notSelected .cvt8 w)) ∧
  (∀ w b, w < 8 → w % 2 = 0 → decode ⟨.prim .cvt16, w, b⟩ = .error (.notSelected .cvt16 w))

/-- A few words written out from the spec's encodings: CFG.D16 is `011`, DROP under DUAL_15BIT is `0111`, ENC.D8 is
`1010` with channel 0 in the low 16 bits of `ch_i`, CONNECT is `1`. -/
def Obligations.SampleWordsDecode : Prop :=
  decode ⟨.cfg, 0b011, 0⟩ = .ok .cfgD16 ∧
  decode ⟨.upd, 0b0111, 0⟩ = .ok (.drop 7 #v[0, 0, 0, 0, 0, 0, 0, 0, 0, 0, 0, 0]) ∧
  decode ⟨.upd, 0b1010, 0x8300000000000000000000007D0000000000000000000000⟩ =
    .ok (.encD8 #v[0, 0, 0, 0, 0, 0x7D00, 0, 0, 0, 0, 0, 0x8300]) ∧
  decode ⟨.env, 1, 0⟩ = .ok .connect

/-! ### The step -/

/-- A step takes the oldest request and runs the operation it decodes to, on the state without that request; with
nothing pending the state is held (R9, R33; `pending` is log 1). -/
def Obligations.StepRunsDecodedOperation : Prop :=
  (∀ (s : State) (r : Request) (rest : List Request) (i : Instr), s.pending = r :: rest →
    decode (r.code s) = .ok i → step s = exec i { s with pending := rest }) ∧
  (∀ s : State, s.pending = [] → step s = .next s)

/-- Every request but an undefined mode value is run as exactly one operation: CONFIGURE as its mode's row, UPDATE in
phase READY as DROP or as the encoding of the active mode by the dispatch word `(CONNECTED, MODE)`, a write of
CONNECTED as CONNECT or DISCONNECT, RESET as RESET (R61, R63, R130, R131, R160; dispatch word D5). -/
def Obligations.EachRequestRunsItsRow : Prop :=
  ∀ (s : State) (rest : List Request),
    (∀ m : Mode, s.pending = .configure (wordOfMode m).toNat :: rest →
      step s = exec (configureRow m) { s with pending := rest }) ∧
    (∀ b, s.pending = .update b :: rest → s.ready → s.connected = false →
      step s = exec (.drop s.mode (channelsOfBus b)) { s with pending := rest }) ∧
    (∀ b, s.pending = .update b :: rest → s.ready → s.connected = true →
      step s = exec (encodingRow (channelsOfBus b) (modeOfWord s.mode)) { s with pending := rest }) ∧
    (s.pending = .setConnected 1 :: rest → step s = exec .connect { s with pending := rest }) ∧
    (s.pending = .setConnected 0 :: rest → step s = exec .disconnect { s with pending := rest }) ∧
    (s.pending = .reset :: rest → step s = exec .reset { s with pending := rest })

/-- The next step of a state to which a bare table word has been presented runs the operation the decoder reads from
that word (log 2). -/
def Obligations.FetchWordRunsNext : Prop :=
  ∀ (s : State) (nbits w : Nat) (i : Instr), decodeTableWord nbits w = some i →
    step (s.withFetchWord nbits w) = exec i (readyFor nbits w s)

/-- Every operation completes, and so does every step: it takes at most one request and answers a next state
(R176). -/
def Obligations.EveryStepCompletes : Prop :=
  (∀ (i : Instr) (s : State), ∃ t, exec i s = .next t) ∧
  (∀ s : State, ∃ t, step s = .next t ∧ t.pending = s.pending.tail)

/-! ### CONFIGURE -/

/-- In phase UNCONFIGURED each of CFG.S8, CFG.S16, CFG.D8, CFG.D16, CFG.S7, CFG.S15, CFG.D7, CFG.D15 writes its mode
word to MODE, sets CONFIGURED, publishes its mode's descriptor once, and changes nothing else (R84 with decision
D14, R85 to R92). -/
def Obligations.ConfigureActivatesItsMode : Prop :=
  ∀ s : State, s.unconfigured → ∀ m : Mode,
    exec (configureRow m) s = .next
      { s with mode := wordOfMode m, configured := true
               events := s.events ++ [.publish (wordOfMode m) (descriptorFor m)] }

/-- CONFIGURE while a mode is active latches Reconfigure (2) and does nothing else, whatever the operand, defined or
not (R143 with decisions D7 and D9). -/
def Obligations.SecondConfigureLatchesReconfigure : Prop :=
  (∀ (s : State) (m : Mode), s.ready → exec (configureRow m) s = .next { s with fault := 2 }) ∧
  (∀ (s : State) (raw : Nat) (rest : List Request), s.ready → s.pending = .configure raw :: rest →
    step s = .next { s with pending := rest, fault := 2 })

/-- CONFIGURE with an undefined mode value in phase UNCONFIGURED latches InvalidMode (1) and does nothing else (R142
with decision D3; the operand wider than the 3-bit port is log 15). -/
def Obligations.UndefinedModeLatchesInvalidMode : Prop :=
  ∀ (s : State) (raw : Nat) (rest : List Request), s.unconfigured → 8 ≤ raw → s.pending = .configure raw :: rest →
    step s = .next { s with pending := rest, fault := 1 }

/-! ### UPDATE -/

/-- UPDATE before CONFIGURE latches NotConfigured (3) and does nothing else, connected or not: every UPD row, and the
step (R144 with decision D8). -/
def Obligations.UpdateBeforeConfigureLatchesNotConfigured : Prop :=
  (∀ (s : State) (chv : ChannelVector) (mmm : BitVec 3) (m : Mode), s.unconfigured →
    exec (.drop mmm chv) s = .next { s with fault := 3 } ∧
    exec (encodingRow chv m) s = .next { s with fault := 3 }) ∧
  (∀ (s : State) (b : BitVec 192) (rest : List Request), s.unconfigured → s.pending = .update b :: rest →
    step s = .next { s with pending := rest, fault := 3 })

/-- DROP, dispatch word `0mmm` for any `mmm` (D5): in phase READY with CONNECTED = 0, in every mode, the channels are
captured and nothing else happens: no event, no fault, RB as before; the pure contract emits nothing; and a CONNECT
that follows does not deliver the dropped vector (R112). -/
def Obligations.DropCapturesAndEmitsNothing : Prop :=
  (∀ (mmm : BitVec 3) (chv : ChannelVector), decode ⟨.upd, mmm.toNat, busOfChannels chv⟩ = .ok (.drop mmm chv)) ∧
  (∀ (s : State) (chv : ChannelVector), s.ready → s.connected = false →
    exec (.drop s.mode chv) s = .next { s with ch := chv }) ∧
  (∀ (m : Mode) (chv : ChannelVector), encodeContract m chv false = []) ∧
  (∀ (s t u : State) (b : BitVec 192) (rest : List Request), s.ready → s.connected = false →
    s.pending = .update b :: .setConnected 1 :: rest → step s = .next t → step t = .next u →
    u.events = s.events ∧ u.rb = s.rb ∧ u.connected = true)

/-- ENC.S8, dispatch word `1000` (the word is notation, D5, on the numbering D2): one event of 7 bytes from channels 0 to 5; buffer 0 holds them; nothing else changes but the capture. A
channel of -32768 emits `0x80` (R115). -/
def Obligations.EncS8DeliversOneReport : Prop :=
  (∀ ch : ChannelVector, decode ⟨.upd, 0b1000, busOfChannels ch⟩ = .ok (.encS8 ch)) ∧
  (∀ (s : State) (ch : ChannelVector), s.ready → s.connected = true → s.mode = 0b000 →
    ∃ r0, exec (.encS8 ch) s = .next
      { s with ch := ch, rb := #v[r0, s.rb[1]]
               events := s.events ++ [.deliver 0 (report8 ch[0] ch[1] ch[2] ch[3] ch[4] ch[5])] } ∧
      holds r0 s.rb[0] (report8 ch[0] ch[1] ch[2] ch[3] ch[4] ch[5])) ∧
  hiByte (BitVec.ofInt 16 (-32768)) = 0x80

/-- ENC.S16, dispatch word `1001` (D5, D2): one event of 13 bytes from channels 0 to 5, low byte first; buffer 0 holds them; nothing else changes
but the capture. A channel of -32768 emits `0x00, 0x80` (R116). -/
def Obligations.EncS16DeliversOneReport : Prop :=
  (∀ ch : ChannelVector, decode ⟨.upd, 0b1001, busOfChannels ch⟩ = .ok (.encS16 ch)) ∧
  (∀ (s : State) (ch : ChannelVector), s.ready → s.connected = true → s.mode = 0b001 →
    ∃ r0, exec (.encS16 ch) s = .next
      { s with ch := ch, rb := #v[r0, s.rb[1]]
               events := s.events ++ [.deliver 0 (report16 ch[0] ch[1] ch[2] ch[3] ch[4] ch[5])] } ∧
      holds r0 s.rb[0] (report16 ch[0] ch[1] ch[2] ch[3] ch[4] ch[5])) ∧
  loByte (BitVec.ofInt 16 (-32768)) = 0x00 ∧ hiByte (BitVec.ofInt 16 (-32768)) = 0x80

/-- ENC.D8, dispatch word `1010` (D5, D2): two events of 7 bytes, gamepad 0 from channels 0 to 5 and then gamepad 1 from channels 6 to 11; the two
buffers hold them; nothing else changes but the capture (R117). -/
def Obligations.EncD8DeliversTwoReports : Prop :=
  (∀ ch : ChannelVector, decode ⟨.upd, 0b1010, busOfChannels ch⟩ = .ok (.encD8 ch)) ∧
  (∀ (s : State) (ch : ChannelVector), s.ready → s.connected = true → s.mode = 0b010 →
    ∃ r0 r1, exec (.encD8 ch) s = .next
      { s with ch := ch, rb := #v[r0, r1]
               events := s.events ++ [.deliver 0 (report8 ch[0] ch[1] ch[2] ch[3] ch[4] ch[5]),
                 .deliver 1 (report8 ch[6] ch[7] ch[8] ch[9] ch[10] ch[11])] } ∧
      holds r0 s.rb[0] (report8 ch[0] ch[1] ch[2] ch[3] ch[4] ch[5]) ∧
      holds r1 s.rb[1] (report8 ch[6] ch[7] ch[8] ch[9] ch[10] ch[11]))

/-- ENC.D16, dispatch word `1011` (D5, D2): two events of 13 bytes, low byte first, gamepad 0 from channels 0 to 5 and then gamepad 1 from channels 6
to 11; the two buffers hold them; nothing else changes but the capture (R118). -/
def Obligations.EncD16DeliversTwoReports : Prop :=
  (∀ ch : ChannelVector, decode ⟨.upd, 0b1011, busOfChannels ch⟩ = .ok (.encD16 ch)) ∧
  (∀ (s : State) (ch : ChannelVector), s.ready → s.connected = true → s.mode = 0b011 →
    ∃ r0 r1, exec (.encD16 ch) s = .next
      { s with ch := ch, rb := #v[r0, r1]
               events := s.events ++ [.deliver 0 (report16 ch[0] ch[1] ch[2] ch[3] ch[4] ch[5]),
                 .deliver 1 (report16 ch[6] ch[7] ch[8] ch[9] ch[10] ch[11])] } ∧
      holds r0 s.rb[0] (report16 ch[0] ch[1] ch[2] ch[3] ch[4] ch[5]) ∧
      holds r1 s.rb[1] (report16 ch[6] ch[7] ch[8] ch[9] ch[10] ch[11]))

/-- ENC.S7, dispatch word `1100` (D5, D2), delivers the bytes of an ENC.S8 of the same channels, for every input; a non-negative channel gives a byte
up to `0x7F`, a negative one a byte from `0x80`, with no fault (R119). -/
def Obligations.EncS7DeliversOneReport : Prop :=
  (∀ ch : ChannelVector, decode ⟨.upd, 0b1100, busOfChannels ch⟩ = .ok (.encS7 ch)) ∧
  (∀ (s : State) (ch : ChannelVector), s.ready → s.connected = true → s.mode = 0b100 →
    ∃ r0, exec (.encS7 ch) s = .next
      { s with ch := ch, rb := #v[r0, s.rb[1]]
               events := s.events ++ [.deliver 0 (report8 ch[0] ch[1] ch[2] ch[3] ch[4] ch[5])] } ∧
      holds r0 s.rb[0] (report8 ch[0] ch[1] ch[2] ch[3] ch[4] ch[5])) ∧
  (∀ v : Chan, (0 ≤ v.toInt → hiByte v ≤ 0x7F#8) ∧ (v.toInt < 0 → 0x80#8 ≤ hiByte v))

/-- ENC.S15, dispatch word `1101` (D5, D2), delivers the bytes of an ENC.S16 of the same channels, for every input; a non-negative channel has a high
byte up to `0x7F`, and any channel, negative ones among them, reads back unchanged from its two bytes, with no
fault (R120). -/
def Obligations.EncS15DeliversOneReport : Prop :=
  (∀ ch : ChannelVector, decode ⟨.upd, 0b1101, busOfChannels ch⟩ = .ok (.encS15 ch)) ∧
  (∀ (s : State) (ch : ChannelVector), s.ready → s.connected = true → s.mode = 0b101 →
    ∃ r0, exec (.encS15 ch) s = .next
      { s with ch := ch, rb := #v[r0, s.rb[1]]
               events := s.events ++ [.deliver 0 (report16 ch[0] ch[1] ch[2] ch[3] ch[4] ch[5])] } ∧
      holds r0 s.rb[0] (report16 ch[0] ch[1] ch[2] ch[3] ch[4] ch[5])) ∧
  (∀ v : Chan, (0 ≤ v.toInt → hiByte v ≤ 0x7F#8) ∧ hiByte v ++ loByte v = v)

/-- ENC.D7, dispatch word `1110` (D5, D2), delivers the bytes of an ENC.D8 of the same channels, for every input; a
non-negative channel gives a byte up to `0x7F`, a negative one a byte from `0x80`, with no fault (R121). -/
def Obligations.EncD7DeliversTwoReports : Prop :=
  (∀ ch : ChannelVector, decode ⟨.upd, 0b1110, busOfChannels ch⟩ = .ok (.encD7 ch)) ∧
  (∀ (s : State) (ch : ChannelVector), s.ready → s.connected = true → s.mode = 0b110 →
    ∃ r0 r1, exec (.encD7 ch) s = .next
      { s with ch := ch, rb := #v[r0, r1]
               events := s.events ++ [.deliver 0 (report8 ch[0] ch[1] ch[2] ch[3] ch[4] ch[5]),
                 .deliver 1 (report8 ch[6] ch[7] ch[8] ch[9] ch[10] ch[11])] } ∧
      holds r0 s.rb[0] (report8 ch[0] ch[1] ch[2] ch[3] ch[4] ch[5]) ∧
      holds r1 s.rb[1] (report8 ch[6] ch[7] ch[8] ch[9] ch[10] ch[11])) ∧
  (∀ v : Chan, (0 ≤ v.toInt → hiByte v ≤ 0x7F#8) ∧ (v.toInt < 0 → 0x80#8 ≤ hiByte v))

/-- ENC.D15, dispatch word `1111` (D5, D2), delivers the bytes of an ENC.D16 of the same channels, for every input; a
non-negative channel has a high byte up to `0x7F`, and any channel reads back unchanged from its two bytes, with no
fault (R122). -/
def Obligations.EncD15DeliversTwoReports : Prop :=
  (∀ ch : ChannelVector, decode ⟨.upd, 0b1111, busOfChannels ch⟩ = .ok (.encD15 ch)) ∧
  (∀ (s : State) (ch : ChannelVector), s.ready → s.connected = true → s.mode = 0b111 →
    ∃ r0 r1, exec (.encD15 ch) s = .next
      { s with ch := ch, rb := #v[r0, r1]
               events := s.events ++ [.deliver 0 (report16 ch[0] ch[1] ch[2] ch[3] ch[4] ch[5]),
                 .deliver 1 (report16 ch[6] ch[7] ch[8] ch[9] ch[10] ch[11])] } ∧
      holds r0 s.rb[0] (report16 ch[0] ch[1] ch[2] ch[3] ch[4] ch[5]) ∧
      holds r1 s.rb[1] (report16 ch[6] ch[7] ch[8] ch[9] ch[10] ch[11])) ∧
  (∀ v : Chan, (0 ≤ v.toInt → hiByte v ≤ 0x7F#8) ∧ hiByte v ++ loByte v = v)

/-- The step on an UPDATE request, in every state, is R110's pseudocode with CONNECTED and MODE read from the state:
the choice of a row by the dispatch word and the row's meaning together add and lose nothing (decisions D8, D10,
D11). -/
def Obligations.UpdateStepIsPseudocode : Prop :=
  ∀ (s : State) (b : BitVec 192) (rest : List Request), s.pending = .update b :: rest →
    step s = .next (updateAsWritten (channelsOfBus b) { s with pending := rest })

/-- In phase READY the events an UPDATE adds are the deliveries of the pure contract `encode(MODE, ch, CONNECTED)`,
MODE, CONFIGURED, FAULT and CONNECTED are kept, and their number is `CONNECTED * (1 + MODE.D)` for every vector
(R123). -/
def Obligations.UpdateEmitsPureContract : Prop :=
  ∀ (s : State) (b : BitVec 192) (rest : List Request), s.pending = .update b :: rest → s.ready →
    ∃ rb', step s = .next
      { s with pending := rest, ch := channelsOfBus b, rb := rb'
               events := s.events ++
                 deliverEvents (encodeContract (modeOfWord s.mode) (channelsOfBus b) s.connected) } ∧
      (encodeContract (modeOfWord s.mode) (channelsOfBus b) s.connected).length =
        s.connected.toNat * (1 + (fieldD s.mode).toNat)

/-- What an UPDATE emits depends on MODE, on its own vector and on the one sample of CONNECTED, and on nothing an
earlier UPDATE wrote; in particular the same vector twice emits the same events twice (R124). -/
def Obligations.UpdateIsStateless : Prop :=
  (∀ (s1 s2 t1 t2 : State) (b : BitVec 192) (r1 r2 : List Request),
    s1.pending = .update b :: r1 → s2.pending = .update b :: r2 → s1.ready → s2.ready →
    s1.mode = s2.mode → s1.connected = s2.connected →
    step s1 = .next t1 → step s2 = .next t2 → emitted s1 t1 = emitted s2 t2) ∧
  (∀ (s t t' : State) (b : BitVec 192) (rest : List Request),
    s.pending = .update b :: .update b :: rest → step s = .next t → step t = .next t' →
    s.ready → emitted s t = emitted t t')

/-- In a single mode what an UPDATE emits does not depend on channels 6 to 11; in a dual mode the sink of gamepad 0
does not depend on channels 6 to 11, nor the sink of gamepad 1 on channels 0 to 5. -/
def Obligations.ReportsIgnoreOtherChannels : Prop :=
  ∀ (s t1 t2 : State) (b1 b2 : BitVec 192) (rest : List Request), s.ready →
    step { s with pending := .update b1 :: rest } = .next t1 →
    step { s with pending := .update b2 :: rest } = .next t2 →
    ((∀ i : Fin 12, i.val < 6 → (channelsOfBus b1)[i] = (channelsOfBus b2)[i]) →
      t1.sink 0 = t2.sink 0 ∧ (fieldD s.mode = false → t1.events = t2.events)) ∧
    ((∀ i : Fin 12, 6 ≤ i.val → (channelsOfBus b1)[i] = (channelsOfBus b2)[i]) → t1.sink 1 = t2.sink 1)

/-- Axis field `a` of report `g` is a function of channel `6*g + a` alone: two vectors that agree there give the same
bytes at its offsets, in both widths. -/
def Obligations.AxisFieldDependsOnItsChannel : Prop :=
  ∀ (m : Mode) (ch1 ch2 : ChannelVector) (g : Fin 2) (a : Fin 6) (r1 r2 : Report),
    ch1[6 * g.val + a.val]'(by omega) = ch2[6 * g.val + a.val]'(by omega) →
    (axisWidth m = 8 →
      (buildReport m ch1 g r1)[1 + a.val] = (buildReport m ch2 g r2)[1 + a.val]) ∧
    (axisWidth m = 16 →
      (buildReport m ch1 g r1)[1 + 2 * a.val] = (buildReport m ch2 g r2)[1 + 2 * a.val] ∧
      (buildReport m ch1 g r1)[2 + 2 * a.val] = (buildReport m ch2 g r2)[2 + 2 * a.val])

/-- The laws between encodings, in every state and for every vector: the range bit does not reach the datapath;
report 0 of a dual encoding is the report of the single one; byte `1 + a` of a 7-byte report is byte `2 + 2*a` of
the 13-byte one. -/
def Obligations.LawsBetweenEncodings : Prop :=
  (∀ (s : State) (ch : ChannelVector),
    exec (.encS7 ch) s = exec (.encS8 ch) s ∧ exec (.encS15 ch) s = exec (.encS16 ch) s ∧
    exec (.encD7 ch) s = exec (.encD8 ch) s ∧ exec (.encD15 ch) s = exec (.encD16 ch) s) ∧
  (∀ (s t t' : State) (ch : ChannelVector), s.ready →
    (exec (.encS8 ch) s = .next t → exec (.encD8 ch) s = .next t' →
      (emitted s t') = (emitted s t) ++ (emitted s t').drop 1) ∧
    (exec (.encS16 ch) s = .next t → exec (.encD16 ch) s = .next t' →
      (emitted s t') = (emitted s t) ++ (emitted s t').drop 1)) ∧
  (∀ (ch : ChannelVector) (g : Fin 2) (a : Fin 6),
    (contractReport .s8 ch g)[1 + a.val]? = (contractReport .s16 ch g)[2 + 2 * a.val]?)

/-- The logical range of the mode is never compared with a channel value: an UPDATE in phase READY latches no fault,
whatever the vector, and the caller's obligations are not a premise of anything it emits. -/
def Obligations.NoChannelValueIsAFault : Prop :=
  ∀ (s t : State) (b : BitVec 192) (rest : List Request), s.pending = .update b :: rest → s.ready →
    step s = .next t → t.good ∧ t.configured = true ∧ t.mode = s.mode

/-- What the caller must keep for an emitted field to lie in the range the descriptor declares, exactly: from 256 times
the declared minimum up in an 8-bit mode, from the declared minimum up in a 16-bit one; so the caller who obeys in an
unsigned-range mode gets axis bytes up to `0x7F` in an 8-bit mode, and high bytes up to `0x7F` in a 16-bit one. The block checks none of it (R166, R167). -/
def Obligations.ObeyedRangesStayDeclared : Prop :=
  (∀ (m : Mode) (v : Chan),
    (axisWidth m = 8 →
      (256 * (rangeFor m).1 ≤ v.toInt ↔ (rangeFor m).1 ≤ (cvt8 v).toInt ∧ (cvt8 v).toInt ≤ (rangeFor m).2)) ∧
    (axisWidth m = 16 →
      ((rangeFor m).1 ≤ v.toInt ↔
        (rangeFor m).1 ≤ (cvt16Hi v ++ cvt16Lo v).toInt ∧ (cvt16Hi v ++ cvt16Lo v).toInt ≤ (rangeFor m).2))) ∧
  (∀ (m : Mode) (ch : ChannelVector) (g : Fin 2) (a : Fin 6), callerObeys m ch → (rangeFor m).1 = 0 →
    (axisWidth m = 8 → ∃ b, (contractReport m ch g)[1 + a.val]? = some b ∧ b ≤ 0x7F#8) ∧
    (axisWidth m = 16 → ∃ b, (contractReport m ch g)[2 + 2 * a.val]? = some b ∧ b ≤ 0x7F#8))

/-! ### The primitives -/

/-- MUX(g, a) gives channel `6*g + a`, an index in 0 to 11, and writes no register of the block; its value stands in
the model's own field `primOut` (log 9). The two sides of the group boundary; no mode word deselects it; and group 1
is visited only when MODE.D = 1 (R48, R100; MODE.D is D2; the operand bus of the decode clause is the model's choice,
log 17). -/
def Obligations.MuxSelectsItsChannel : Prop :=
  (∀ (g : Fin 2) (a : Fin 6) (s : State), ∃ h : 6 * g.val + a.val < 12,
    exec (.mux g a) s = .next { s with primOut := .channel (s.ch[6 * g.val + a.val]'h) }) ∧
  (∀ s : State, exec (.mux 0 5) s = .next { s with primOut := .channel s.ch[5] } ∧
    exec (.mux 1 0) s = .next { s with primOut := .channel s.ch[6] }) ∧
  (∀ (w : BitVec 3) (g : Fin 2) (a : Fin 6), decode ⟨.prim .mux, w.toNat, (encode (.mux g a)).bus⟩ = .ok (.mux g a)) ∧
  (∀ w : BitVec 3, (1 : Fin 2) ∈ gamepadIndices (reportCount (modeOfWord w)) ↔ fieldD w = true)

/-- CVT8 is the high byte of the pattern, which is the arithmetic shift right by 8 and the floor of the division by
256, with no clamp: the band 0 to 255 gives 0, -256 to -1 gives `0xFF`, -32768 to -32513 gives `0x80`; the source's
examples. It is selected by MODE.W = 0. CVT8 by itself leaves that byte in `primOut` (log 9) and changes nothing else
(R101; MODE.W is D2). Both `primOut` and the operand in the low 16 bits of the bus (log 17) are the model's choice. -/
def Obligations.Cvt8IsFloorDivision : Prop :=
  ∀ (v : Chan) (s : State),
    exec (.cvt8 v) s = .next { s with primOut := .byte (v.extractLsb' 8 8) } ∧
    (∀ w : BitVec 3, decode ⟨.prim .cvt8, w.toNat, v.setWidth 192⟩ = .ok (.cvt8 v) ↔ fieldW w = false) ∧
    v.extractLsb' 8 8 = (v.sshiftRight 8).setWidth 8 ∧
    v.extractLsb' 8 8 = BitVec.ofInt 8 (v.toInt / 256) ∧
    (v.extractLsb' 8 8).toInt = v.toInt / 256 ∧
    (0 ≤ v.toInt ∧ v.toInt ≤ 255 → v.extractLsb' 8 8 = 0x00#8) ∧
    (-256 ≤ v.toInt ∧ v.toInt ≤ -1 → v.extractLsb' 8 8 = 0xFF#8) ∧
    (v.toInt = 32767 → v.extractLsb' 8 8 = 0x7F#8) ∧
    (v.toInt ≤ -32513 → v.extractLsb' 8 8 = 0x80#8) ∧
    (v.toInt = -32512 → v.extractLsb' 8 8 = 0x81#8) ∧
    (v.toInt < 0 → 0x80#8 ≤ v.extractLsb' 8 8) ∧
    (v.toInt = 300 → v.extractLsb' 8 8 = 0x01#8) ∧ (v.toInt = -300 → v.extractLsb' 8 8 = 0xFE#8) ∧
    (v.toInt = 32000 → v.extractLsb' 8 8 = 0x7D#8) ∧ (v.toInt = -32000 → v.extractLsb' 8 8 = 0x83#8)

/-- CVT16 gives the low byte and the high byte of the pattern, low first; together they are the pattern, read back
as the same signed value; the high byte is CVT8's; corner values and the source's examples. It is selected by
MODE.W = 1. CVT16 by itself leaves the two bytes in `primOut` (log 9) and changes nothing else (R102; MODE.W is
D2). Both `primOut` and the operand in the low 16 bits of the bus (log 17) are the model's choice. -/
def Obligations.Cvt16KeepsEveryBit : Prop :=
  ∀ (v : Chan) (s : State),
    exec (.cvt16 v) s = .next { s with primOut := .bytes (v.extractLsb' 0 8) (v.extractLsb' 8 8) } ∧
    (∀ w : BitVec 3, decode ⟨.prim .cvt16, w.toNat, v.setWidth 192⟩ = .ok (.cvt16 v) ↔ fieldW w = true) ∧
    v.extractLsb' 8 8 ++ v.extractLsb' 0 8 = v ∧
    (v.extractLsb' 8 8 ++ v.extractLsb' 0 8 : BitVec 16).toInt = v.toInt ∧
    v.extractLsb' 8 8 = cvt8 v ∧
    (v.toInt = 0 → v.extractLsb' 0 8 = 0x00#8 ∧ v.extractLsb' 8 8 = 0x00#8) ∧
    (v.toInt = -1 → v.extractLsb' 0 8 = 0xFF#8 ∧ v.extractLsb' 8 8 = 0xFF#8) ∧
    (v.toInt = 255 → v.extractLsb' 0 8 = 0xFF#8 ∧ v.extractLsb' 8 8 = 0x00#8) ∧
    (v.toInt = 256 → v.extractLsb' 0 8 = 0x00#8 ∧ v.extractLsb' 8 8 = 0x01#8) ∧
    (v.toInt = 32767 → v.extractLsb' 0 8 = 0xFF#8 ∧ v.extractLsb' 8 8 = 0x7F#8) ∧
    (v.toInt = -32767 → v.extractLsb' 0 8 = 0x01#8 ∧ v.extractLsb' 8 8 = 0x80#8) ∧
    (v.toInt = -32768 → v.extractLsb' 0 8 = 0x00#8 ∧ v.extractLsb' 8 8 = 0x80#8) ∧
    (v.toInt < 0 → 0x80#8 ≤ v.extractLsb' 8 8) ∧
    (v.toInt = 1000 → v.extractLsb' 0 8 = 0xE8#8 ∧ v.extractLsb' 8 8 = 0x03#8) ∧
    (v.toInt = 100 → v.extractLsb' 0 8 = 0x64#8 ∧ v.extractLsb' 8 8 = 0x00#8) ∧
    (v.toInt = -100 → v.extractLsb' 0 8 = 0x9C#8 ∧ v.extractLsb' 8 8 = 0xFF#8)

/-- The button byte is 0 in every mode, for every gamepad and every input: by itself (its value in `primOut`, log 9),
in the buffer BUILD writes, and as the first byte of every report delivered; no mode word deselects it (R103). The
field `primOut` and the operand bus, ignored here (log 17), are the model's choice. -/
def Obligations.ButtonByteIsZero : Prop :=
  (∀ s : State, exec .btn s = .next { s with primOut := .byte 0x00#8 }) ∧
  (∀ (w : BitVec 3) (b : BitVec 192), decode ⟨.prim .btn, w.toNat, b⟩ = .ok .btn) ∧
  (∀ (m : Mode) (ch : ChannelVector) (g : Fin 2) (old : Report), (buildReport m ch g old)[0] = 0x00#8) ∧
  (∀ (s t : State) (b : BitVec 192) (rest : List Request), s.pending = .update b :: rest → step s = .next t →
    ∀ g bytes, Event.deliver g bytes ∈ emitted s t → bytes.head? = some 0x00#8)

/-- BUILD(g) writes buffer `g` only: byte 0 is the button byte; with `MODE.W = 0` byte `1 + a` is the high byte of
channel `6*g + a`; with `MODE.W = 1` bytes `1 + 2*a` and `2 + 2*a` are its low and high bytes; bytes from RLEN up
are unchanged; nothing else changes. No mode word deselects it, and the order of BUILD(0) and BUILD(1) cannot be
observed (R104; MODE.W is D2; the gamepad index in bit 0 of the operand bus is the model's choice, log 17). -/
def Obligations.BuildWritesTheReport : Prop :=
  (∀ (g : Fin 2) (s : State), ∃ r : Report,
    exec (.build g) s = .next { s with rb := s.rb.set g.val r } ∧
    r[0] = 0x00#8 ∧
    (∀ a : Fin 6, ∃ v : Chan, s.ch[6 * g.val + a.val]? = some v ∧
      (fieldW s.mode = false → r[1 + a.val] = v.extractLsb' 8 8) ∧
      (fieldW s.mode = true → r[1 + 2 * a.val] = v.extractLsb' 0 8 ∧ r[2 + 2 * a.val] = v.extractLsb' 8 8)) ∧
    (∀ k, (h : k < 13) → reportLength (modeOfWord s.mode) ≤ k → r[k] = s.rb[g][k])) ∧
  (∀ (w : BitVec 3) (g : Fin 2), decode ⟨.prim .build, w.toNat, BitVec.ofNat 192 g.val⟩ = .ok (.build g)) ∧
  (∀ s t u t' u' : State, exec (.build 0) s = .next t → exec (.build 1) t = .next u →
    exec (.build 1) s = .next t' → exec (.build 0) t' = .next u' → u = u')

/-- DELIVER(g) emits one event, the pair of `g` and the first RLEN bytes of buffer `g` in increasing offset, 7 or 13 of
them, and writes nothing (R113 with decision D13). -/
def Obligations.DeliverEmitsTheBuffer : Prop :=
  ∀ (g : Fin 2) (s : State), ∃ bytes : List Byte,
    exec (.deliver g) s = .next { s with events := s.events ++ [.deliver g bytes] } ∧
    bytes.length = (if fieldW s.mode then 13 else 7) ∧
    ∀ k, (h : k < bytes.length) → ∃ h' : k < 13, bytes[k] = s.rb[g][k]

/-! ### The environment and RESET -/

/-- CONNECT, the value 1 written to `connected_i`, writes 1 to CONNECTED, in any phase, and changes nothing else; when
it is already 1 nothing changes; an UPDATE that follows it in phase READY delivers (R130). -/
def Obligations.ConnectWritesOnlyConnected : Prop :=
  (∀ s : State, exec .connect s = .next { s with connected := true }) ∧
  (∀ s : State, s.connected = true → exec .connect s = .next s) ∧
  (∀ b : BitVec 192, decode ⟨.env, 1, b⟩ = .ok .connect) ∧
  (∀ (s t u : State) (b : BitVec 192) (rest : List Request), s.ready →
    s.pending = .setConnected 1 :: .update b :: rest → step s = .next t → step t = .next u →
    t.events = s.events ∧
      ∃ bytes, (emitted t u).head? = some (.deliver 0 bytes) ∧ bytes.length = reportLength (modeOfWord s.mode))

/-- DISCONNECT, the value 0 written to `connected_i`, writes 0 to CONNECTED, in any phase, and changes nothing else,
MODE and CONFIGURED among it, and recalls nothing; when it is already 0 nothing changes; an UPDATE that follows it in
phase READY is a DROP, while one before it, which sampled 1, delivers all its reports (R131). -/
def Obligations.DisconnectWritesOnlyConnected : Prop :=
  (∀ s : State, exec .disconnect s = .next { s with connected := false }) ∧
  (∀ s : State, s.connected = false → exec .disconnect s = .next s) ∧
  (∀ b : BitVec 192, decode ⟨.env, 0, b⟩ = .ok .disconnect) ∧
  (∀ (s t u : State) (b : BitVec 192) (rest : List Request), s.ready →
    s.pending = .setConnected 0 :: .update b :: rest → step s = .next t → step t = .next u →
    u.events = s.events ∧ u.ch = channelsOfBus b ∧ u.rb = s.rb ∧ u.mode = s.mode ∧ u.configured = true) ∧
  (∀ (s t u : State) (b : BitVec 192) (rest : List Request), s.ready → s.connected = true →
    s.pending = .update b :: .setConnected 0 :: rest → step s = .next t → step t = .next u →
    (emitted s u).length = reportCount (modeOfWord s.mode))

/-- RESET, from every phase, clears CONFIGURED and FAULT and leaves CONNECTED and the events as they were; MODE, CH and
RB may hold anything afterwards; the phase is UNCONFIGURED (R160 and R32 with decisions D16 and D17; `draws` is log 7,
the list of events log 8). That the pending requests stay as they were is the model's choice (log 1, DEDUCED). -/
def Obligations.ResetClearsConfiguredAndFault : Prop :=
  ∀ s : State, ∃ mode' ch' rb' draws', exec .reset s = .next
    { s with configured := false, fault := 0, mode := mode', ch := ch', rb := rb', draws := draws' } ∧
    ({ s with configured := false, fault := 0, mode := mode', ch := ch', rb := rb', draws := draws' } : State).phase =
      .unconfigured

/-- The state after reset has CONFIGURED = 0 and FAULT = 0, is in phase UNCONFIGURED, has emitted nothing, and is idle
(R32, R33 with decisions D16 and D17). -/
def Obligations.ResetStateIsUnconfigured : Prop :=
  State.reset.configured = false ∧ State.reset.fault = 0 ∧ State.reset.phase = .unconfigured ∧
  State.reset.events = [] ∧ step State.reset = .next State.reset

/-! ### Whole-machine rules -/

/-- Who writes what (R20 with decisions D6, D11, D12, D16 and D17): each item of the block changes only under the
operations of its column. The model's own fields beside them: the list of events (log 8) changes only under CONFIGURE,
an encoding or DELIVER, and no operation, RESET among them, touches the pending requests (log 1, DEDUCED). -/
def Obligations.EachItemHasItsWriters : Prop :=
  ∀ (i : Instr) (s t : State), exec i s = .next t →
    (t.ch ≠ s.ch → i.row.fmt = .upd ∨ i = .reset) ∧
    (t.mode ≠ s.mode → i.row.fmt = .cfg ∨ i = .reset) ∧
    (t.configured ≠ s.configured → i.row.fmt = .cfg ∨ i = .reset) ∧
    (t.fault ≠ s.fault → i.row.fmt = .cfg ∨ i.row.fmt = .upd ∨ i = .reset) ∧
    (t.rb ≠ s.rb → (i.row.fmt = .upd ∧ ∀ m chv, i ≠ .drop m chv) ∨ i.row.fmt = .prim .build ∨ i = .reset) ∧
    (t.connected ≠ s.connected → i = .connect ∨ i = .disconnect) ∧
    (t.events ≠ s.events → i.row.fmt = .cfg ∨ (i.row.fmt = .upd ∧ ∀ m chv, i ≠ .drop m chv) ∨
      i.row.fmt = .prim .deliver) ∧
    t.pending = s.pending

/-- While FAULT is not 0 a step with anything but RESET or a write of CONNECTED changes nothing but the list of
requests; a write of CONNECTED changes CONNECTED too; only RESET clears the latch (R147 with decision D21). -/
def Obligations.FaultedBlockIgnoresOperations : Prop :=
  ∀ (s : State) (r : Request) (rest : List Request), s.fault ≠ 0 → s.pending = r :: rest → r ≠ .reset →
    ∃ c, step s = .next { s with pending := rest, connected := c } ∧ ((∀ v, r ≠ .setConnected v) → c = s.connected)

/-- A fault is precise: a step that latches a cause writes the latch and nothing else and emits nothing; the cause is
Reconfigure or InvalidMode from a CONFIGURE, NotConfigured from an UPDATE (R141, R146 with decision D6). -/
def Obligations.FaultEntryIsPrecise : Prop :=
  ∀ (s t : State), step s = .next t → s.fault = 0 → t.fault ≠ 0 →
    t = { s with pending := s.pending.tail, fault := t.fault } ∧
    ((∃ raw, s.pending.head? = some (.configure raw) ∧
        ((t.fault = 2 ∧ s.configured = true) ∨ (t.fault = 1 ∧ s.configured = false ∧ 8 ≤ raw))) ∨
     (∃ b, s.pending.head? = some (.update b) ∧ t.fault = 3 ∧ s.configured = false))

/-- MODE is immutable from a successful CONFIGURE to the next RESET, and CONFIGURED is cleared by RESET only (R22, R23
with decisions D7 and D8). -/
def Obligations.ActiveModeIsImmutable : Prop :=
  ∀ (s t : State), step s = .next t → s.configured = true → s.pending.head? ≠ some .reset →
    t.configured = true ∧ t.mode = s.mode

/-- The phase changes only as R28 says: UNCONFIGURED to READY by a CONFIGURE, UNCONFIGURED or READY to FAULTED, and
FAULTED or READY to UNCONFIGURED by RESET only (decision D6). -/
def Obligations.PhaseTransitions : Prop :=
  ∀ (s t : State), step s = .next t → t.phase ≠ s.phase →
    (s.phase = .unconfigured ∧ t.phase = .ready ∧ ∃ raw, s.pending.head? = some (.configure raw)) ∨
    (s.phase ≠ .faulted ∧ t.phase = .faulted) ∨
    (s.phase ≠ .unconfigured ∧ t.phase = .unconfigured ∧ s.pending.head? = some .reset)

/-- An UPDATE that fails a check reads neither CONNECTED nor MODE: with any other values there the step does the same
and leaves those values alone (R111, R144). -/
def Obligations.FailedCheckReadsNothing : Prop :=
  ∀ (s t : State) (b : BitVec 192) (rest : List Request) (c : Bool) (w : BitVec 3),
    s.pending = .update b :: rest → ¬ s.ready → step s = .next t →
    step { s with connected := c, mode := w } = .next { t with connected := c, mode := w }

/-- Only a CONFIGURE publishes, and what it publishes is the descriptor of the mode it makes active; nothing publishes
on UPDATE, CONNECT, DISCONNECT or RESET (R94). -/
def Obligations.OnlyConfigurePublishes : Prop :=
  ∀ (s t : State) (w : BitVec 3) (d : List Byte), step s = .next t → Event.publish w d ∈ emitted s t →
    (∃ raw, s.pending.head? = some (.configure raw)) ∧ d = Config.desc (modeOfWord w) ∧
    t.mode = w ∧ t.configured = true ∧ s.configured = false ∧ emitted s t = [.publish w d]

/-- Every step keeps the invariant `State.coherent`: the trace of output events is coherent (a Publish first, each
report in the layout of the last descriptor published, report 0 before report 1, both or none), the last
descriptor published is the active mode's, and the latched cause agrees with CONFIGURED. -/
def Obligations.EveryStepKeepsCoherence : Prop :=
  ∀ (s t : State), s.coherent → step s = .next t → t.coherent

/-- The state after reset meets the invariant. -/
def Obligations.ResetIsCoherent : Prop := State.reset.coherent

/-- Running all the pending requests, any interleaving of the agents, from any state: the machine emits exactly what
the block without channel latches and report buffers emits, and ends with the same active mode, fault and
CONNECTED (R21, R26: the two are observationally equal). -/
def Obligations.RunRefinesBlockWithoutBuffers : Prop :=
  ∀ s : State, ∃ t : State, Sys2Proof.core.run s.pending.length s = .next t ∧ t.pending = [] ∧
    t.abstract = (Abstract.run s.pending s.abstract).1 ∧
    t.events = s.events ++ (Abstract.run s.pending s.abstract).2

/-! ### Ports -/

/-- Requests presented together: the environment's level, then RESET alone, or CONFIGURE before UPDATE (R145 with
decision D22; the place of the level is log 16); a transaction at the 3-bit port never presents an undefined mode
(R65). -/
def Obligations.PortRequestPriority : Prop :=
  ∀ p : PortInputs,
    (p.rst_i = true → p.requests = [.setConnected (BitVec.ofBool p.connected_i), .reset]) ∧
    (p.rst_i = false → p.cfg_valid_i = true → p.upd_valid_i = true →
      p.requests = [.setConnected (BitVec.ofBool p.connected_i), .configure p.cfg_mode_i.toNat, .update p.ch_i]) ∧
    (∀ raw, .configure raw ∈ p.requests → raw < 8)

/-- The report port carries a Deliver event whole: the index is `g`, the length is the report's, and byte `k` is
`rpt_data_o[8*k + 7 : 8*k]`, whatever the bits beyond the report are (R67 with decision D4). -/
def Obligations.ReportPortCarriesEveryByte : Prop :=
  ∀ (g : Fin 2) (bytes : List Byte) (moment : Nat), bytes.length ≤ 13 →
    ∃ p, Event.reportPort (.deliver g bytes) moment = some p ∧ p.rpt_index_o.toNat = g.val ∧
      p.rpt_len_o.toNat = bytes.length ∧
      ∀ k, (h : k < bytes.length) → p.rpt_data_o.extractLsb' (8 * k) 8 = bytes[k]

/-- The status outputs show CONFIGURED and FAULT always and MODE once configured, in every phase, FAULTED among them;
once configured the descriptor read port shows DESC(MODE) whole: its length, and each of its bytes at the offset of
that byte, which some address of DESC_AW bits is (R67, R147, with decisions D4, D21 and D23). Looking at an output is
no operation. -/
def Obligations.StatusOutputsShowRegisters : Prop :=
  ∀ (s : State) (moment : Nat),
    (s.statusOutputs moment).configured_o = BitVec.ofBool s.configured ∧
    (s.statusOutputs moment).fault_o = s.fault ∧
    (s.configured = true → (s.statusOutputs moment).mode_o = s.mode ∧
      (s.descLenO moment).toNat = (Config.desc (modeOfWord s.mode)).length ∧
      ∀ k, (h : k < (Config.desc (modeOfWord s.mode)).length) → ∃ desc_addr_i : BitVec Config.descAw,
        desc_addr_i.toNat = k ∧ s.descDataO desc_addr_i moment = (Config.desc (modeOfWord s.mode))[k])

/-- UPDATE1 is UPDATE with zeros in channels 6 to 11, and `c<i>` of a line becomes channel `i` of the operation it is
decoded to (R68 with decision D5). -/
def Obligations.LinesExpandToTheirChannels : Prop :=
  (∀ v : Vector Int 6, (Line.update1 v).request =
    (Line.update #v[v[0], v[1], v[2], v[3], v[4], v[5], 0, 0, 0, 0, 0, 0]).request) ∧
  (∀ v : Vector Int 12, (Line.update v).valid = true → ∃ b, (Line.update v).request = .update b ∧
    ∀ i : Fin 12, (channelsOfBus b)[i].toInt = v[i])
end

