-- ==== Sys2Proof/Laws/Decode.lean ====
section
/-! SUPPORT. The channel bus: laying channels on it and cutting it undo each other; and the decoding of a dispatch
word by its two parts. -/

namespace Sys2Proof

/-- A channel laid at position `i` has its bits at `16*i` and up. -/
theorem getLsbD_channelAt (i : Nat) (hi : i < 12) (v : Chan) (k : Nat) :
    (channelAt i v).getLsbD k = (decide (16 * i ≤ k) && v.getLsbD (k - 16 * i)) := by
  unfold channelAt
  by_cases h : 16 * i ≤ k
  · by_cases h2 : k - 16 * i < 16
    · simp [h, show k < 192 by omega]
    · simp [BitVec.getLsbD_of_ge v (k - 16 * i) (by omega)]
  · simp [h, show k < 16 * i by omega]

/-- Outside its own 16 bits a laid channel is zero. -/
theorem getLsbD_channelAt_other (i q r : Nat) (hi : i < 12) (hr : r < 16) (h : i ≠ q) (v : Chan) :
    (channelAt i v).getLsbD (16 * q + r) = false := by
  rw [getLsbD_channelAt i hi]
  rcases Nat.lt_or_gt_of_ne h with h | h
  · simp [BitVec.getLsbD_of_ge v (16 * q + r - 16 * i) (by omega)]
  · simp [show ¬ 16 * i ≤ 16 * q + r by omega]

/-- Inside its own 16 bits a laid channel reads as itself. -/
theorem getLsbD_channelAt_same (q r : Nat) (hq : q < 12) (v : Chan) :
    (channelAt q v).getLsbD (16 * q + r) = v.getLsbD r := by
  rw [getLsbD_channelAt q hq]
  simp

/-- Bit `r` of channel `q` is bit `16*q + r` of the bus (R67). -/
theorem getLsbD_busOfChannels (ch : ChannelVector) (q r : Nat) (hq : q < 12) (hr : r < 16) :
    (busOfChannels ch).getLsbD (16 * q + r) = ch[q].getLsbD r := by
  unfold busOfChannels
  simp only [BitVec.getLsbD_or]
  interval_cases q <;>
    simp (disch := omega) only [getLsbD_channelAt_same, getLsbD_channelAt_other _ _ _ _ hr, Bool.or_false, Bool.false_or]

/-- Channel `q` is the 16-bit slice at `16*q` (R67). -/
theorem getElem_channelsOfBus (b : BitVec 192) (q : Nat) (hq : q < 12) :
    (channelsOfBus b)[q] = b.extractLsb' (16 * q) 16 := by
  unfold channelsOfBus
  interval_cases q <;> rfl

/-- Cutting the bus undoes laying the channels on it. -/
@[simp] theorem channelsOfBus_busOfChannels (ch : ChannelVector) : channelsOfBus (busOfChannels ch) = ch := by
  apply Vector.ext
  intro q hq
  rw [getElem_channelsOfBus _ _ hq]
  apply BitVec.eq_of_getLsbD_eq
  intro r hr
  simp [hr, getLsbD_busOfChannels ch q r hq hr]

/-- Laying the channels on the bus undoes cutting it. -/
@[simp] theorem busOfChannels_channelsOfBus (b : BitVec 192) : busOfChannels (channelsOfBus b) = b := by
  apply BitVec.eq_of_getLsbD_eq
  intro k hk
  have hr : k % 16 < 16 := by omega
  have hq : k / 16 < 12 := by omega
  have hk' : 16 * (k / 16) + k % 16 = k := by omega
  have h := getLsbD_busOfChannels (channelsOfBus b) (k / 16) (k % 16) hq hr
  rw [getElem_channelsOfBus _ _ hq, hk'] at h
  simp [h, hr, hk']

/-- A dispatch word with `c = 0` is a DROP, with the mode bits kept (R63). -/
@[simp] theorem decodeUpd_drop (m : BitVec 3) (chv : ChannelVector) :
    decodeUpd m.toNat chv = .ok (.drop m chv) := by
  have h := m.isLt
  unfold decodeUpd
  rw [if_pos (by omega)]
  simp

/-- The low 16 bits of a channel widened to the bus are the channel. -/
@[simp] theorem extractLsb'_setWidth_chan (v : Chan) : (v.setWidth 192).extractLsb' 0 16 = v := by
  ext j hj
  simp [hj]
  omega

end Sys2Proof
end

