-- ==== Sys2Proof/Laws/State.lean ====
section
/-! SUPPORT. What each shared update does to each field of State: one lemma per field per update, so that no later
proof unfolds a record update. -/

namespace Sys2Proof.Machine

@[simp] theorem emit_ch (e : Event) (s : State) : (emit e s).ch = s.ch := rfl
@[simp] theorem emit_mode (e : Event) (s : State) : (emit e s).mode = s.mode := rfl
@[simp] theorem emit_configured (e : Event) (s : State) : (emit e s).configured = s.configured := rfl
@[simp] theorem emit_fault (e : Event) (s : State) : (emit e s).fault = s.fault := rfl
@[simp] theorem emit_rb (e : Event) (s : State) : (emit e s).rb = s.rb := rfl
@[simp] theorem emit_connected (e : Event) (s : State) : (emit e s).connected = s.connected := rfl
@[simp] theorem emit_pending (e : Event) (s : State) : (emit e s).pending = s.pending := rfl
@[simp] theorem emit_events (e : Event) (s : State) : (emit e s).events = s.events ++ [e] := rfl
@[simp] theorem emit_primOut (e : Event) (s : State) : (emit e s).primOut = s.primOut := rfl
@[simp] theorem emit_draws (e : Event) (s : State) : (emit e s).draws = s.draws := rfl

@[simp] theorem capture_ch (chv : ChannelVector) (s : State) : (capture chv s).ch = chv := rfl
@[simp] theorem capture_mode (chv : ChannelVector) (s : State) : (capture chv s).mode = s.mode := rfl
@[simp] theorem capture_configured (chv : ChannelVector) (s : State) : (capture chv s).configured = s.configured := rfl
@[simp] theorem capture_fault (chv : ChannelVector) (s : State) : (capture chv s).fault = s.fault := rfl
@[simp] theorem capture_rb (chv : ChannelVector) (s : State) : (capture chv s).rb = s.rb := rfl
@[simp] theorem capture_connected (chv : ChannelVector) (s : State) : (capture chv s).connected = s.connected := rfl
@[simp] theorem capture_pending (chv : ChannelVector) (s : State) : (capture chv s).pending = s.pending := rfl
@[simp] theorem capture_events (chv : ChannelVector) (s : State) : (capture chv s).events = s.events := rfl
@[simp] theorem capture_primOut (chv : ChannelVector) (s : State) : (capture chv s).primOut = s.primOut := rfl
@[simp] theorem capture_draws (chv : ChannelVector) (s : State) : (capture chv s).draws = s.draws := rfl

@[simp] theorem build_ch (m : Mode) (g : Fin 2) (s : State) : (build m g s).ch = s.ch := rfl
@[simp] theorem build_mode (m : Mode) (g : Fin 2) (s : State) : (build m g s).mode = s.mode := rfl
@[simp] theorem build_configured (m : Mode) (g : Fin 2) (s : State) : (build m g s).configured = s.configured := rfl
@[simp] theorem build_fault (m : Mode) (g : Fin 2) (s : State) : (build m g s).fault = s.fault := rfl
@[simp] theorem build_rb (m : Mode) (g : Fin 2) (s : State) : (build m g s).rb = s.rb.set g.val (buildReport m s.ch g s.rb[g]) := rfl
@[simp] theorem build_connected (m : Mode) (g : Fin 2) (s : State) : (build m g s).connected = s.connected := rfl
@[simp] theorem build_pending (m : Mode) (g : Fin 2) (s : State) : (build m g s).pending = s.pending := rfl
@[simp] theorem build_events (m : Mode) (g : Fin 2) (s : State) : (build m g s).events = s.events := rfl
@[simp] theorem build_primOut (m : Mode) (g : Fin 2) (s : State) : (build m g s).primOut = s.primOut := rfl
@[simp] theorem build_draws (m : Mode) (g : Fin 2) (s : State) : (build m g s).draws = s.draws := rfl

@[simp] theorem deliver_ch (m : Mode) (g : Fin 2) (s : State) : (deliver m g s).ch = s.ch := rfl
@[simp] theorem deliver_mode (m : Mode) (g : Fin 2) (s : State) : (deliver m g s).mode = s.mode := rfl
@[simp] theorem deliver_configured (m : Mode) (g : Fin 2) (s : State) : (deliver m g s).configured = s.configured := rfl
@[simp] theorem deliver_fault (m : Mode) (g : Fin 2) (s : State) : (deliver m g s).fault = s.fault := rfl
@[simp] theorem deliver_rb (m : Mode) (g : Fin 2) (s : State) : (deliver m g s).rb = s.rb := rfl
@[simp] theorem deliver_connected (m : Mode) (g : Fin 2) (s : State) : (deliver m g s).connected = s.connected := rfl
@[simp] theorem deliver_pending (m : Mode) (g : Fin 2) (s : State) : (deliver m g s).pending = s.pending := rfl
@[simp] theorem deliver_events (m : Mode) (g : Fin 2) (s : State) : (deliver m g s).events = s.events ++ [.deliver g (reportBytes m s.rb[g])] := rfl
@[simp] theorem deliver_primOut (m : Mode) (g : Fin 2) (s : State) : (deliver m g s).primOut = s.primOut := rfl
@[simp] theorem deliver_draws (m : Mode) (g : Fin 2) (s : State) : (deliver m g s).draws = s.draws := rfl

@[simp] theorem resetBlock_ch (s : State) : (resetBlock s).ch = Config.unspecCh s.draws := rfl
@[simp] theorem resetBlock_mode (s : State) : (resetBlock s).mode = Config.unspecMode s.draws := rfl
@[simp] theorem resetBlock_configured (s : State) : (resetBlock s).configured = false := rfl
@[simp] theorem resetBlock_fault (s : State) : (resetBlock s).fault = 0#2 := rfl
@[simp] theorem resetBlock_rb (s : State) : (resetBlock s).rb = Config.unspecRb s.draws := rfl
@[simp] theorem resetBlock_connected (s : State) : (resetBlock s).connected = s.connected := rfl
@[simp] theorem resetBlock_pending (s : State) : (resetBlock s).pending = s.pending := rfl
@[simp] theorem resetBlock_events (s : State) : (resetBlock s).events = s.events := rfl
@[simp] theorem resetBlock_primOut (s : State) : (resetBlock s).primOut = s.primOut := rfl
@[simp] theorem resetBlock_draws (s : State) : (resetBlock s).draws = s.draws + 1 := rfl

@[simp] theorem State.present_ch (s : State) (p : PortInputs) : (s.present p).ch = s.ch := rfl
@[simp] theorem State.present_mode (s : State) (p : PortInputs) : (s.present p).mode = s.mode := rfl
@[simp] theorem State.present_configured (s : State) (p : PortInputs) : (s.present p).configured = s.configured := rfl
@[simp] theorem State.present_fault (s : State) (p : PortInputs) : (s.present p).fault = s.fault := rfl
@[simp] theorem State.present_rb (s : State) (p : PortInputs) : (s.present p).rb = s.rb := rfl
@[simp] theorem State.present_connected (s : State) (p : PortInputs) : (s.present p).connected = s.connected := rfl
@[simp] theorem State.present_pending (s : State) (p : PortInputs) : (s.present p).pending = s.pending ++ p.requests := rfl
@[simp] theorem State.present_events (s : State) (p : PortInputs) : (s.present p).events = s.events := rfl
@[simp] theorem State.present_primOut (s : State) (p : PortInputs) : (s.present p).primOut = s.primOut := rfl
@[simp] theorem State.present_draws (s : State) (p : PortInputs) : (s.present p).draws = s.draws := rfl

@[simp] theorem raiseFault_ch (c : Cause) (s : State) : (raiseFault c s).ch = s.ch := by
  unfold raiseFault; split <;> rfl
@[simp] theorem raiseFault_mode (c : Cause) (s : State) : (raiseFault c s).mode = s.mode := by
  unfold raiseFault; split <;> rfl
@[simp] theorem raiseFault_configured (c : Cause) (s : State) : (raiseFault c s).configured = s.configured := by
  unfold raiseFault; split <;> rfl
@[simp] theorem raiseFault_rb (c : Cause) (s : State) : (raiseFault c s).rb = s.rb := by
  unfold raiseFault; split <;> rfl
@[simp] theorem raiseFault_connected (c : Cause) (s : State) : (raiseFault c s).connected = s.connected := by
  unfold raiseFault; split <;> rfl
@[simp] theorem raiseFault_pending (c : Cause) (s : State) : (raiseFault c s).pending = s.pending := by
  unfold raiseFault; split <;> rfl
@[simp] theorem raiseFault_events (c : Cause) (s : State) : (raiseFault c s).events = s.events := by
  unfold raiseFault; split <;> rfl
@[simp] theorem raiseFault_primOut (c : Cause) (s : State) : (raiseFault c s).primOut = s.primOut := by
  unfold raiseFault; split <;> rfl
@[simp] theorem raiseFault_draws (c : Cause) (s : State) : (raiseFault c s).draws = s.draws := by
  unfold raiseFault; split <;> rfl

/-- The first cause is latched. -/
theorem raiseFault_of_none (c : Cause) (s : State) (h : s.fault = 0#2) : raiseFault c s = { s with fault := c.code } := by
  simp [raiseFault, h]

/-- A later cause is not recorded. -/
theorem raiseFault_of_some (c : Cause) (s : State) (h : s.fault ≠ 0#2) : raiseFault c s = s := by
  unfold raiseFault; rw [if_neg h]

end Sys2Proof.Machine
end

