-- ==== Sys2Proof/Laws/Ops.lean ====
section
/-! SUPPORT. What each shared operation can do, said once. -/

namespace Sys2Proof.Machine

/-! ### BUILD and DELIVER -/

/-- BUILD leaves the bytes from `RLEN` up as they were (R104). -/
theorem getElem_buildReport_beyond (m : Mode) (ch : ChannelVector) (g : Fin 2) (old : Report) (k : Nat) (hk : k < 13)
    (h : reportLength m ≤ k) : (buildReport m ch g old)[k] = old[k] := by
  cases m <;> simp [reportLength, modeParams] at h <;>
    first
    | omega
    | (interval_cases k <;> simp [buildReport, axisIndices, writeAxis, axisWidth, modeParams])

/-- The bytes BUILD writes are the report of R123, whatever the buffer held. -/
theorem reportBytes_buildReport (m : Mode) (ch : ChannelVector) (g : Fin 2) (old : Report) :
    reportBytes m (buildReport m ch g old) = contractReport m ch g := by
  obtain ⟨⟨l⟩, hl⟩ := old
  match l, hl with
  | [_, _, _, _, _, _, _, _, _, _, _, _, _], _ => cases m <;> rfl

/-- A report has the length of its mode (R69). -/
theorem length_contractReport (m : Mode) (ch : ChannelVector) (g : Fin 2) :
    (contractReport m ch g).length = reportLength m := by
  cases m <;> rfl

/-- A report begins with the button byte (R103). -/
theorem head_contractReport (m : Mode) (ch : ChannelVector) (g : Fin 2) :
    (contractReport m ch g).head? = some 0 := rfl

/-- BUILD then DELIVER: one buffer is written and one event emitted, with the report of R123. -/
theorem deliver_build (m : Mode) (g : Fin 2) (s : State) :
    deliver m g (build m g s) =
      { s with rb := s.rb.set g.val (buildReport m s.ch g s.rb[g])
               events := s.events ++ [.deliver g (contractReport m s.ch g)] } := by
  simp [deliver, emit, build, reportBytes_buildReport]

/-- Writing buffer 0 (R26). -/
theorem set_zero_rb (rb : ReportBuffers) (r : Report) : rb.set 0 r = #v[r, rb[1]] := by
  apply Vector.ext
  intro i hi
  interval_cases i <;> simp

/-- Writing both buffers (R26). -/
theorem set_both_rb (rb : ReportBuffers) (r0 r1 : Report) : (rb.set 0 r0).set 1 r1 = #v[r0, r1] := by
  apply Vector.ext
  intro i hi
  interval_cases i <;> simp

/-- The field of axis `a` after BUILD, in both widths (R104). -/
theorem getElem_buildReport_axis (m : Mode) (ch : ChannelVector) (g : Fin 2) (old : Report) (a : Fin 6) :
    (axisWidth m = 8 → (buildReport m ch g old)[1 + a.val] = (ch[channelIndex g a]).extractLsb' 8 8) ∧
    (axisWidth m = 16 →
      (buildReport m ch g old)[1 + 2 * a.val] = (ch[channelIndex g a]).extractLsb' 0 8 ∧
      (buildReport m ch g old)[2 + 2 * a.val] = (ch[channelIndex g a]).extractLsb' 8 8) := by
  obtain ⟨a, ha⟩ := a
  constructor <;> intro h <;> interval_cases a <;>
    simp [buildReport, axisIndices, writeAxis, h, mux, cvt8, cvt16Lo, cvt16Hi]

/-! ### The report loop -/

theorem gamepadIndices_one : gamepadIndices 1 = [0] := rfl
theorem gamepadIndices_two : gamepadIndices 2 = [0, 1] := rfl

/-- The report count is 1 or 2 (R80). -/
theorem reportCount_cases (m : Mode) : reportCount m = 1 ∨ reportCount m = 2 := by cases m <;> decide

/-- The reports of a single mode: buffer 0 only (R114). -/
theorem sendReports_single (m : Mode) (s : State) (h : reportCount m = 1) :
    sendReports m s =
      { s with rb := #v[buildReport m s.ch 0 s.rb[0], s.rb[1]]
               events := s.events ++ [.deliver 0 (contractReport m s.ch 0)] } := by
  simp only [sendReports, h, gamepadIndices_one, reportLoop]
  rw [← set_zero_rb]
  exact deliver_build m 0 s

/-- The reports of a dual mode: buffer 0 and event 0, then buffer 1 and event 1 (R114). -/
theorem sendReports_dual (m : Mode) (s : State) (h : reportCount m = 2) :
    sendReports m s =
      { s with rb := #v[buildReport m s.ch 0 s.rb[0], buildReport m s.ch 1 s.rb[1]]
               events := s.events ++ [.deliver 0 (contractReport m s.ch 0), .deliver 1 (contractReport m s.ch 1)] } := by
  simp only [sendReports, h, gamepadIndices_two, reportLoop, deliver_build]
  rw [← set_both_rb s.rb]
  simp

/-- Reports change RB and the events and nothing else; the events are those of R123. -/
theorem sendReports_spec (m : Mode) (s : State) :
    ∃ rb', sendReports m s =
      { s with rb := rb', events := s.events ++ deliverEvents (encodeContract m s.ch true) } := by
  rcases reportCount_cases m with h | h
  · refine ⟨(sendReports m s).rb, ?_⟩
    simp [sendReports_single m s h, deliverEvents, encodeContract, h, gamepadIndices_one]
  · refine ⟨(sendReports m s).rb, ?_⟩
    simp [sendReports_dual m s h, deliverEvents, encodeContract, h, gamepadIndices_two]

/-! ### CONFIGURE and UPDATE -/

/-- Everything CONFIGURE can do (R84, R145). -/
theorem configure_cases (raw : Nat) (s : State) :
    (s.fault ≠ 0#2 ∧ configure raw s = s) ∨
    (s.fault = 0#2 ∧ s.configured = true ∧ configure raw s = { s with fault := 2 }) ∨
    (s.fault = 0#2 ∧ s.configured = false ∧ 8 ≤ raw ∧ configure raw s = { s with fault := 1 }) ∨
    (s.fault = 0#2 ∧ s.configured = false ∧ raw < 8 ∧ configure raw s =
      { s with mode := BitVec.ofNat 3 raw, configured := true
               events := s.events ++ [.publish (BitVec.ofNat 3 raw) (Config.desc (modeOfWord (BitVec.ofNat 3 raw)))] }) := by
  by_cases hf : s.fault = 0#2
  · cases hc : s.configured
    · by_cases hr : 8 ≤ raw
      · simp [configure, hf, hc, hr, raiseFault_of_none, Cause.code]
      · simp [configure, hf, hc, hr, emit, descriptorFor]; omega
    · simp [configure, hf, hc, raiseFault_of_none, Cause.code]
  · left; exact ⟨hf, by unfold configure; rw [if_pos hf]⟩

/-- Everything UPDATE can do before its reports (R110, R145). -/
theorem updateThen_cases (rest : State → State) (chv : ChannelVector) (s : State) :
    (s.fault ≠ 0#2 ∧ updateThen rest chv s = s) ∨
    (s.fault = 0#2 ∧ s.configured = false ∧ updateThen rest chv s = { s with fault := 3 }) ∨
    (s.fault = 0#2 ∧ s.configured = true ∧ updateThen rest chv s = rest { s with ch := chv }) := by
  by_cases hf : s.fault = 0#2
  · cases hc : s.configured <;> simp [updateThen, hf, hc, raiseFault_of_none, Cause.code, capture]
  · left; exact ⟨hf, by unfold updateThen; rw [if_pos hf]⟩

/-! ### Fetch -/

/-- With nothing pending there is nothing to take. -/
theorem fetch_nil (s : State) (h : s.pending = []) : fetch s = none := by simp [fetch, h]

/-- The oldest request is taken. -/
theorem fetch_cons (s : State) (r : Request) (rest : List Request) (h : s.pending = r :: rest) :
    fetch s = some (r.code s, { s with pending := rest }) := by simp [fetch, h]

/-- In phase READY the dispatch word is `(CONNECTED, MODE)` (R63). -/
theorem dispatchWord_ready (s : State) (hf : s.fault = 0#2) (hc : s.configured = true) :
    s.dispatchWord = (if s.connected then 8 else 0) + s.mode.toNat := by
  simp [State.dispatchWord, State.updateChecksPass, hf, hc]

/-- An UPDATE that fails a check has the dispatch word 0, whatever CONNECTED and MODE hold (R111). -/
theorem dispatchWord_notReady (s : State) (h : ¬ (s.fault = 0#2 ∧ s.configured = true)) : s.dispatchWord = 0 := by
  have hg : s.updateChecksPass = false := by
    unfold State.updateChecksPass
    by_cases hf : s.fault = 0#2
    · have hc : s.configured = false := by cases hc : s.configured <;> simp_all
      simp [hc]
    · simp [hf]
  simp [State.dispatchWord, hg]

end Sys2Proof.Machine
end

