-- ==== Sys2Proof/Laws/PerInstr.lean ====
section
/-! SUPPORT. Per-instruction families. `RowWord`: the code `encode` gives an operation is well formed and selects the
operation's own row of the opcode table. -/

namespace Sys2Proof.Laws.RowWord

/-- The encoded operation is well formed and its word agrees with its row's value under the row's mask. -/
def Statement (i : Instr) : Prop := (encode i).wellFormed = true ∧ i.row.selects (encode i) = true

theorem cfgS8 : Statement .cfgS8 := by unfold Statement; decide
theorem cfgS16 : Statement .cfgS16 := by unfold Statement; decide
theorem cfgD8 : Statement .cfgD8 := by unfold Statement; decide
theorem cfgD16 : Statement .cfgD16 := by unfold Statement; decide
theorem cfgS7 : Statement .cfgS7 := by unfold Statement; decide
theorem cfgS15 : Statement .cfgS15 := by unfold Statement; decide
theorem cfgD7 : Statement .cfgD7 := by unfold Statement; decide
theorem cfgD15 : Statement .cfgD15 := by unfold Statement; decide
theorem drop (mmm : BitVec 3) (chv : ChannelVector) : Statement (.drop mmm chv) := by
  have h : ∀ m : BitVec 3, m.toNat < 16 ∧ m.toNat &&& 8 = 0 := by decide
  simp [Statement, encode, Instr.row, Code.wellFormed, Code.wordFits, Code.selected, Code.operandFits, Row.selects,
    Format.width, h mmm]
theorem encS8 (chv : ChannelVector) : Statement (.encS8 chv) := by
  simp [Statement, encode, Instr.row, Code.wellFormed, Code.wordFits, Code.selected, Code.operandFits, Row.selects,
    Format.width]
theorem encS16 (chv : ChannelVector) : Statement (.encS16 chv) := by
  simp [Statement, encode, Instr.row, Code.wellFormed, Code.wordFits, Code.selected, Code.operandFits, Row.selects,
    Format.width]
theorem encD8 (chv : ChannelVector) : Statement (.encD8 chv) := by
  simp [Statement, encode, Instr.row, Code.wellFormed, Code.wordFits, Code.selected, Code.operandFits, Row.selects,
    Format.width]
theorem encD16 (chv : ChannelVector) : Statement (.encD16 chv) := by
  simp [Statement, encode, Instr.row, Code.wellFormed, Code.wordFits, Code.selected, Code.operandFits, Row.selects,
    Format.width]
theorem encS7 (chv : ChannelVector) : Statement (.encS7 chv) := by
  simp [Statement, encode, Instr.row, Code.wellFormed, Code.wordFits, Code.selected, Code.operandFits, Row.selects,
    Format.width]
theorem encS15 (chv : ChannelVector) : Statement (.encS15 chv) := by
  simp [Statement, encode, Instr.row, Code.wellFormed, Code.wordFits, Code.selected, Code.operandFits, Row.selects,
    Format.width]
theorem encD7 (chv : ChannelVector) : Statement (.encD7 chv) := by
  simp [Statement, encode, Instr.row, Code.wellFormed, Code.wordFits, Code.selected, Code.operandFits, Row.selects,
    Format.width]
theorem encD15 (chv : ChannelVector) : Statement (.encD15 chv) := by
  simp [Statement, encode, Instr.row, Code.wellFormed, Code.wordFits, Code.selected, Code.operandFits, Row.selects,
    Format.width]
theorem mux (g : Fin 2) (a : Fin 6) : Statement (.mux g a) := by revert g a; unfold Statement; decide
theorem cvt8 (v : Chan) : Statement (.cvt8 v) := by
  have h := v.isLt
  simp [Statement, encode, Instr.row, Code.wellFormed, Code.wordFits, Code.selected, Code.operandFits, Row.selects,
    Format.width]
  omega
theorem cvt16 (v : Chan) : Statement (.cvt16 v) := by
  have h := v.isLt
  simp [Statement, encode, Instr.row, Code.wellFormed, Code.wordFits, Code.selected, Code.operandFits, Row.selects,
    Format.width]
  omega
theorem btn : Statement .btn := by unfold Statement; decide
theorem build (g : Fin 2) : Statement (.build g) := by revert g; unfold Statement; decide
theorem deliver (g : Fin 2) : Statement (.deliver g) := by revert g; unfold Statement; decide
theorem disconnect : Statement .disconnect := by unfold Statement; decide
theorem connect : Statement .connect := by unfold Statement; decide
theorem reset : Statement .reset := by unfold Statement; decide

end Sys2Proof.Laws.RowWord
end

