-- ==== Sys2Proof/Laws/Ports.lean ====
section
/-! SUPPORT. The descriptor read port is wide enough (D23). -/

namespace Sys2Proof

/-- No descriptor is longer than the longest. -/
theorem Config.length_desc_le_longest (m : Mode) : (Config.desc m).length ≤ Config.longestDesc := by
  cases m <;> simp [Config.longestDesc]

/-- The address reaches past every byte of every descriptor. -/
theorem Config.length_desc_le (m : Mode) : (Config.desc m).length ≤ 2 ^ Config.descAw :=
  calc (Config.desc m).length ≤ Config.longestDesc := Config.length_desc_le_longest m
    _ ≤ 2 ^ Nat.clog 2 Config.longestDesc := Nat.le_pow_clog (by decide) _
    _ ≤ 2 ^ Config.descAw := Nat.pow_le_pow_right (by decide) (by simp [Config.descAw])

end Sys2Proof
end

