-- ==== Sys2Proof/Laws/Step.lean ====
section
/-! SUPPORT. Everything a step can do, said once, and how traces compose. -/

namespace Sys2Proof.Machine

/-- The step on a CONFIGURE request, whatever its operand. -/
theorem step_of_configure (s : State) (raw : Nat) (rest : List Request) (h : s.pending = .configure raw :: rest) :
    step s = .next (configure raw { s with pending := rest }) := by
  simp only [step, fetch_cons s _ _ h, Request.code, decode]
  by_cases hr : raw < 8
  · interval_cases raw <;> rfl
  · have hd : decodeCfg raw = .error (.undefinedMode raw) := by
      unfold decodeCfg
      split <;> first | omega | rfl
    rw [hd]
    rfl

/-- Everything the step on an UPDATE request can do (R110, R145). -/
theorem step_of_update (s : State) (b : BitVec 192) (rest : List Request) (h : s.pending = .update b :: rest) :
    (s.fault ≠ 0#2 ∧ step s = .next { s with pending := rest }) ∨
    (s.fault = 0#2 ∧ s.configured = false ∧ step s = .next { s with pending := rest, fault := 3 }) ∨
    (s.fault = 0#2 ∧ s.configured = true ∧ ∃ rb', step s = .next
      { s with pending := rest, ch := channelsOfBus b, rb := rb'
               events := s.events ++
                 deliverEvents (encodeContract (modeOfWord s.mode) (channelsOfBus b) s.connected) }) := by
  simp only [step, fetch_cons s _ _ h, Request.code, decode]
  by_cases hr : s.fault = 0#2 ∧ s.configured = true
  · obtain ⟨hf, hc⟩ := hr
    refine .inr (.inr ⟨hf, hc, ?_⟩)
    rw [dispatchWord_ready s hf hc]
    cases hconn : s.connected
    · refine ⟨s.rb, ?_⟩
      simp [decodeUpd_drop, exec, execDrop, updateThen, hf, hc, capture, encodeContract, deliverEvents]
    · obtain ⟨rb', hs⟩ := sendReports_spec (modeOfWord s.mode) { s with pending := rest, ch := channelsOfBus b }
      refine ⟨rb', ?_⟩
      have hrow : ∀ w : BitVec 3, ∃ i, decodeUpd (8 + w.toNat) (channelsOfBus b) = .ok i ∧
          ∀ t, exec i t = .next (updateThen (sendReports (modeOfWord w)) (channelsOfBus b) t) := by
        intro w
        have hw := w.isLt
        obtain ⟨⟨n, hn⟩⟩ := w
        simp only [BitVec.toNat] at hw ⊢
        change n < 8 at hn
        interval_cases n <;> exact ⟨_, rfl, fun _ => rfl⟩
      obtain ⟨i, hi, he⟩ := hrow s.mode
      simp only [if_true, hi, he, updateThen, hf, hc, capture]
      simp only [ne_eq, not_true_eq_false, if_false]
      rw [hf, hc, hconn] at hs
      rw [hs]
  · rw [dispatchWord_notReady s hr]
    have hd : decodeUpd 0 (channelsOfBus b) = .ok (.drop 0 (channelsOfBus b)) := rfl
    simp only [hd, exec, execDrop]
    rcases updateThen_cases (fun s' => s') (channelsOfBus b) { s with pending := rest } with
      ⟨hf, e⟩ | ⟨hf, hc, e⟩ | ⟨hf, hc, e⟩
    · exact .inl ⟨hf, by rw [e]⟩
    · exact .inr (.inl ⟨hf, hc, by rw [e]⟩)
    · exact absurd ⟨hf, hc⟩ hr

/-- The step on a write of CONNECTED (R130, R131). -/
theorem step_of_setConnected (s : State) (v : BitVec 1) (rest : List Request) (h : s.pending = .setConnected v :: rest) :
    step s = .next { s with pending := rest, connected := v == 1 } := by
  have hv : ∀ v : BitVec 1, v = 0 ∨ v = 1 := by decide
  simp only [step, fetch_cons s _ _ h, Request.code, decode]
  rcases hv v with rfl | rfl <;> rfl

/-- The step on a RESET request (R160). -/
theorem step_of_reset (s : State) (rest : List Request) (h : s.pending = .reset :: rest) :
    step s = .next (resetBlock { s with pending := rest }) := by
  simp only [step, fetch_cons s _ _ h, Request.code, decode]
  rfl

/-- Everything a step can do. -/
theorem step_cases (s t : State) (h : step s = .next t) :
    (s.pending = [] ∧ t = s) ∨
    (∃ raw rest, s.pending = .configure raw :: rest ∧
      ((s.fault ≠ 0#2 ∧ t = { s with pending := rest }) ∨
       (s.fault = 0#2 ∧ s.configured = true ∧ t = { s with pending := rest, fault := 2 }) ∨
       (s.fault = 0#2 ∧ s.configured = false ∧ 8 ≤ raw ∧ t = { s with pending := rest, fault := 1 }) ∨
       (s.fault = 0#2 ∧ s.configured = false ∧ raw < 8 ∧ t =
         { s with pending := rest, mode := BitVec.ofNat 3 raw, configured := true
                  events := s.events ++
                    [.publish (BitVec.ofNat 3 raw) (Config.desc (modeOfWord (BitVec.ofNat 3 raw)))] }))) ∨
    (∃ b rest, s.pending = .update b :: rest ∧
      ((s.fault ≠ 0#2 ∧ t = { s with pending := rest }) ∨
       (s.fault = 0#2 ∧ s.configured = false ∧ t = { s with pending := rest, fault := 3 }) ∨
       (s.fault = 0#2 ∧ s.configured = true ∧ ∃ rb', t =
         { s with pending := rest, ch := channelsOfBus b, rb := rb'
                  events := s.events ++
                    deliverEvents (encodeContract (modeOfWord s.mode) (channelsOfBus b) s.connected) }))) ∨
    (∃ rest, s.pending = .reset :: rest ∧ t = resetBlock { s with pending := rest }) ∨
    (∃ v rest, s.pending = .setConnected v :: rest ∧ t = { s with pending := rest, connected := v == 1 }) := by
  match hp : s.pending with
  | [] =>
    simp only [step, fetch_nil s hp, Host.Outcome.next.injEq] at h
    exact .inl ⟨rfl, h.symm⟩
  | .configure raw :: rest =>
    rw [step_of_configure s raw rest hp, Host.Outcome.next.injEq] at h
    refine .inr (.inl ⟨raw, rest, rfl, ?_⟩)
    rcases configure_cases raw { s with pending := rest } with ⟨a, e⟩ | ⟨a, b, e⟩ | ⟨a, b, c, e⟩ | ⟨a, b, c, e⟩ <;>
      rw [e] at h
    · exact .inl ⟨a, h.symm⟩
    · exact .inr (.inl ⟨a, b, h.symm⟩)
    · exact .inr (.inr (.inl ⟨a, b, c, h.symm⟩))
    · exact .inr (.inr (.inr ⟨a, b, c, h.symm⟩))
  | .update b :: rest =>
    refine .inr (.inr (.inl ⟨b, rest, rfl, ?_⟩))
    rcases step_of_update s b rest hp with ⟨a, e⟩ | ⟨a, c, e⟩ | ⟨a, c, rb', e⟩ <;>
      rw [e, Host.Outcome.next.injEq] at h
    · exact .inl ⟨a, h.symm⟩
    · exact .inr (.inl ⟨a, c, h.symm⟩)
    · exact .inr (.inr ⟨a, c, rb', h.symm⟩)
  | .reset :: rest =>
    rw [step_of_reset s rest hp, Host.Outcome.next.injEq] at h
    exact .inr (.inr (.inr (.inl ⟨rest, rfl, h.symm⟩)))
  | .setConnected v :: rest =>
    rw [step_of_setConnected s v rest hp, Host.Outcome.next.injEq] at h
    exact .inr (.inr (.inr (.inr ⟨v, rest, rfl, h.symm⟩)))

/-- The buffer BUILD writes holds the report, and what it held before beyond it. -/
theorem holds_buildReport (m : Mode) (ch : ChannelVector) (g : Fin 2) (old : Report) :
    holds (buildReport m ch g old) old (contractReport m ch g) := by
  intro k hk
  rw [← reportBytes_buildReport m ch g old]
  by_cases h : reportLength m ≤ k
  · rw [getElem_buildReport_beyond m ch g old k hk h]
    simp [reportBytes, h]
  · simp [reportBytes, show k < reportLength m by omega, hk]

/-- Two traces that meet make one. -/
theorem TraceState.after_append (a b c : TraceState) (x y : List Event) (h : a.after x b) (h' : b.after y c) :
    a.after (x ++ y) c := by
  induction x generalizing a with
  | nil => cases h; exact h'
  | cons e x ih =>
    obtain ⟨d, h1, h2⟩ := h
    exact ⟨d, h1, ih d h2⟩

end Sys2Proof.Machine
end

