-- ==== Sys2Proof/Tests/Slice0.lean ====
section
/-! SUPPORT. Tests: well-formedness refusals, decoding of words written out from the spec's encodings, single steps with the
results of spec/95_test_vectors.md, and a witness for the hypotheses of every statement that has some. -/

namespace Sys2Proof.Tests

open Sys2Proof Sys2Proof.Machine

/-! ### Helpers -/

/-- A state with the given registers and requests, nothing emitted, and the channels and buffers zero. -/
def mk (mode : BitVec 3) (configured : Bool) (fault : BitVec 2) (connected : Bool) (pending : List Request) : State :=
  { State.reset with
    mode := mode, configured := configured, fault := fault, connected := connected, pending := pending }

/-- Phase READY under the mode word, with CONNECTED = 1 and nothing pending. -/
def online (mode : BitVec 3) : State := mk mode true 0 true []

/-- What the next state shows; none after a fault or a refusal. -/
def shows {α : Type} (f : State → α) (o : Host.Outcome State Fault Refusal) : Option α :=
  match o with
  | .next t => some (f t)
  | .fault _ => none
  | .refused _ => none

/-- The registers the spec's tables list: MODE, CONFIGURED, FAULT, CONNECTED. -/
def regs (s : State) : Nat × Bool × Nat × Bool := (s.mode.toNat, s.configured, s.fault.toNat, s.connected)

/-- The vectors of spec/95_test_vectors.md section 5, and B of program 2. -/
def T1 : ChannelVector := channelsOfInts #v[256, 512, 768, 1024, 1280, 1536, 1792, 2048, 2304, 2560, 2816, 3072]
@[inherit_doc T1] def T2 : ChannelVector := channelsOfInts #v[-256, -512, -768, -1024, -1280, -1536, -1792, -2048, -2304, -2560, -2816, -3072]
@[inherit_doc T1] def T3 : ChannelVector := channelsOfInts #v[32767, -32768, -32767, -1, 1, 0, 255, -255, 256, -256, 12345, -12345]
@[inherit_doc T1] def V : ChannelVector := channelsOfInts #v[100, -100, 300, -300, 32767, -32768, 1000, -1000, 255, 256, -1, 0]
@[inherit_doc T1] def P : ChannelVector := channelsOfInts #v[0, 255, 256, 1000, 16384, 32767, 1, 128, 4660, 22136, 32000, 127]
@[inherit_doc T1] def B : ChannelVector := channelsOfInts #v[0, 0, 0, 0, 0, 32000, 0, 0, 0, 0, 0, -32000]

/-! ### Well-formedness: each check refuses an ill-formed code -/

theorem test_wf_mode_word_too_wide : Code.wellFormed ⟨.cfg, 8, 0⟩ = false := by decide
theorem test_wf_dispatch_word_too_wide : Code.wellFormed ⟨.upd, 16, 0⟩ = false := by decide
theorem test_wf_env_word_too_wide : Code.wellFormed ⟨.env, 2, 0⟩ = false := by decide
theorem test_wf_rst_has_no_bits : Code.wellFormed ⟨.rst, 1, 0⟩ = false := by decide
theorem test_wf_cvt8_not_selected : Code.wellFormed ⟨.prim .cvt8, 1, 0⟩ = false := by decide
theorem test_wf_cvt16_not_selected : Code.wellFormed ⟨.prim .cvt16, 6, 0⟩ = false := by decide
theorem test_wf_operand_where_none : Code.wellFormed ⟨.cfg, 0, 1⟩ = false := by decide
theorem test_wf_axis_six : Code.wellFormed ⟨.prim .mux, 0, 12⟩ = false := by decide
theorem test_wf_value_too_wide : Code.wellFormed ⟨.prim .cvt8, 0, 65536⟩ = false := by decide
theorem test_wf_gamepad_two : Code.wellFormed ⟨.prim .build, 0, 2⟩ = false := by decide
theorem test_wf_accepts : Code.wellFormed ⟨.prim .mux, 7, 11⟩ = true := by decide

/-! ### Decoding: words from R61, R63, R64, R130, R131, R160; `ch_i` values from spec/95 -/

theorem test_decode_cfgS8 : decode ⟨.cfg, 0b000, 0⟩ = .ok .cfgS8 := by decide
theorem test_decode_cfgS16 : decode ⟨.cfg, 0b001, 0⟩ = .ok .cfgS16 := by decide
theorem test_decode_cfgD8 : decode ⟨.cfg, 0b010, 0⟩ = .ok .cfgD8 := by decide
theorem test_decode_cfgD16 : decode ⟨.cfg, 0b011, 0⟩ = .ok .cfgD16 := by decide
theorem test_decode_cfgS7 : decode ⟨.cfg, 0b100, 0⟩ = .ok .cfgS7 := by decide
theorem test_decode_cfgS15 : decode ⟨.cfg, 0b101, 0⟩ = .ok .cfgS15 := by decide
theorem test_decode_cfgD7 : decode ⟨.cfg, 0b110, 0⟩ = .ok .cfgD7 := by decide
theorem test_decode_cfgD15 : decode ⟨.cfg, 0b111, 0⟩ = .ok .cfgD15 := by decide
theorem test_decode_drop : decode ⟨.upd, 0b0010, 0x0C000B000A00090008000700060005000400030002000100⟩ = .ok (.drop 2 T1) := by decide
theorem test_decode_encS8 : decode ⟨.upd, 0b1000, 0xF400F500F600F700F800F900FA00FB00FC00FD00FE00FF00⟩ = .ok (.encS8 T2) := by decide
theorem test_decode_encS16 : decode ⟨.upd, 0b1001, 0xCFC73039FF000100FF0100FF00000001FFFF800180007FFF⟩ = .ok (.encS16 T3) := by decide
theorem test_decode_encD8 : decode ⟨.upd, 0b1010, 0x0000FFFF010000FFFC1803E880007FFFFED4012CFF9C0064⟩ = .ok (.encD8 V) := by decide
theorem test_decode_encD16 : decode ⟨.upd, 0b1011, 0x0C000B000A00090008000700060005000400030002000100⟩ = .ok (.encD16 T1) := by decide
theorem test_decode_encS7 : decode ⟨.upd, 0b1100, 0x007F7D0056781234008000017FFF400003E8010000FF0000⟩ = .ok (.encS7 P) := by decide
theorem test_decode_encS15 : decode ⟨.upd, 0b1101, 0x007F7D0056781234008000017FFF400003E8010000FF0000⟩ = .ok (.encS15 P) := by decide
theorem test_decode_encD7 : decode ⟨.upd, 0b1110, 0xF400F500F600F700F800F900FA00FB00FC00FD00FE00FF00⟩ = .ok (.encD7 T2) := by decide
theorem test_decode_encD15 : decode ⟨.upd, 0b1111, 0xCFC73039FF000100FF0100FF00000001FFFF800180007FFF⟩ = .ok (.encD15 T3) := by decide
theorem test_decode_mux : decode ⟨.prim .mux, 0b010, 0b1011⟩ = .ok (.mux 1 5) := by decide
theorem test_decode_cvt8 : decode ⟨.prim .cvt8, 0b110, 0xFED4⟩ = .ok (.cvt8 0xFED4) := by decide
theorem test_decode_cvt16 : decode ⟨.prim .cvt16, 0b101, 0x03E8⟩ = .ok (.cvt16 0x03E8) := by decide
theorem test_decode_btn : decode ⟨.prim .btn, 0b111, 0⟩ = .ok .btn := by decide
theorem test_decode_build : decode ⟨.prim .build, 0b011, 1⟩ = .ok (.build 1) := by decide
theorem test_decode_deliver : decode ⟨.prim .deliver, 0b000, 0⟩ = .ok (.deliver 0) := by decide
theorem test_decode_disconnect : decode ⟨.env, 0, 0⟩ = .ok .disconnect := by decide
theorem test_decode_connect : decode ⟨.env, 1, 0⟩ = .ok .connect := by decide
theorem test_decode_reset : decode ⟨.rst, 0, 0⟩ = .ok .reset := by decide
theorem test_decode_undefined_mode : decode ⟨.cfg, 9, 0⟩ = .error (.undefinedMode 9) := by decide
theorem test_bare_words : decodeTableWord 8 3 = some .cfgD16 ∧ decodeTableWord 8 15 = some (.encD15 (channelsOfBus 0)) ∧
    decodeTableWord 4 2 = some (.drop 2 (channelsOfBus 0)) ∧ decodeTableWord 1 1 = some .connect ∧
    decodeTableWord 0 0 = some .reset ∧ decodeTableWord 8 16 = none := by decide

/-! ### CONFIGURE (spec/95 sections 2 and 7) -/

theorem test_cfgS8 : shows regs (exec .cfgS8 (mk 0b010 false 0 false [])) = some (0, true, 0, false) := by decide
theorem test_cfgS16 : shows regs (exec .cfgS16 (mk 0b010 false 0 false [])) = some (1, true, 0, false) := by decide
theorem test_cfgD8 : shows regs (exec .cfgD8 (mk 0b010 false 0 false [])) = some (2, true, 0, false) := by decide
theorem test_cfgD16 : shows regs (exec .cfgD16 (mk 0b010 false 0 false [])) = some (3, true, 0, false) := by decide
theorem test_cfgS7 : shows regs (exec .cfgS7 (mk 0b010 false 0 false [])) = some (4, true, 0, false) := by decide
theorem test_cfgS15 : shows regs (exec .cfgS15 (mk 0b010 false 0 false [])) = some (5, true, 0, false) := by decide
theorem test_cfgD7 : shows regs (exec .cfgD7 (mk 0b010 false 0 false [])) = some (6, true, 0, false) := by decide
theorem test_cfgD15 : shows regs (exec .cfgD15 (mk 0b010 false 0 false [])) = some (7, true, 0, false) := by decide
theorem test_cfg_publishes_once : shows State.events (exec .cfgD8 (mk 0 false 0 false [])) =
    some [.publish 2 (Config.desc .d8)] := rfl
theorem test_cfg_again_is_reconfigure : shows (fun t => (regs t, t.events)) (exec .cfgS8 (online 0)) =
    some ((0, true, 2, true), []) := by decide
theorem test_cfg_while_faulted_is_ignored : shows (fun t => (regs t, t.events)) (exec .cfgD16 (mk 5 false 3 true [])) =
    some ((5, false, 3, true), []) := by decide
theorem test_configure_8_is_invalid : shows (fun t => (regs t, t.events)) (step (mk 0 false 0 false [.configure 8])) =
    some ((0, false, 1, false), []) := by decide
theorem test_configure_9_while_ready_is_reconfigure : shows regs (step (mk 0 true 0 false [.configure 9])) =
    some (0, true, 2, false) := by decide

/-! ### UPDATE (spec/95 sections 5 to 7) -/

theorem test_encS8_T3 : shows State.events (exec (.encS8 T3) (online 0)) =
    some [.deliver 0 [0x00, 0x7F, 0x80, 0x80, 0xFF, 0x00, 0x00]] := by decide
theorem test_encS8_V : shows State.events (exec (.encS8 V) (online 0)) =
    some [.deliver 0 [0x00, 0x00, 0xFF, 0x01, 0xFE, 0x7F, 0x80]] := by decide
theorem test_encS16_T3 : shows State.events (exec (.encS16 T3) (online 1)) =
    some [.deliver 0 [0x00, 0xFF, 0x7F, 0x00, 0x80, 0x01, 0x80, 0xFF, 0xFF, 0x01, 0x00, 0x00, 0x00]] := by decide
theorem test_encS16_V : shows State.events (exec (.encS16 V) (online 1)) =
    some [.deliver 0 [0x00, 0x64, 0x00, 0x9C, 0xFF, 0x2C, 0x01, 0xD4, 0xFE, 0xFF, 0x7F, 0x00, 0x80]] := by decide
theorem test_encD8_T3 : shows State.events (exec (.encD8 T3) (online 2)) =
    some [.deliver 0 [0x00, 0x7F, 0x80, 0x80, 0xFF, 0x00, 0x00],
     .deliver 1 [0x00, 0x00, 0xFF, 0x01, 0xFF, 0x30, 0xCF]] := by decide
theorem test_encD8_V : shows State.events (exec (.encD8 V) (online 2)) =
    some [.deliver 0 [0x00, 0x00, 0xFF, 0x01, 0xFE, 0x7F, 0x80],
     .deliver 1 [0x00, 0x03, 0xFC, 0x00, 0x01, 0xFF, 0x00]] := by decide
theorem test_encD16_T3 : shows State.events (exec (.encD16 T3) (online 3)) =
    some [.deliver 0 [0x00, 0xFF, 0x7F, 0x00, 0x80, 0x01, 0x80, 0xFF, 0xFF, 0x01, 0x00, 0x00, 0x00],
     .deliver 1 [0x00, 0xFF, 0x00, 0x01, 0xFF, 0x00, 0x01, 0x00, 0xFF, 0x39, 0x30, 0xC7, 0xCF]] := by decide
theorem test_encD16_V : shows State.events (exec (.encD16 V) (online 3)) =
    some [.deliver 0 [0x00, 0x64, 0x00, 0x9C, 0xFF, 0x2C, 0x01, 0xD4, 0xFE, 0xFF, 0x7F, 0x00, 0x80],
     .deliver 1 [0x00, 0xE8, 0x03, 0x18, 0xFC, 0xFF, 0x00, 0x00, 0x01, 0xFF, 0xFF, 0x00, 0x00]] := by decide
theorem test_encS7_T3 : shows State.events (exec (.encS7 T3) (online 4)) =
    some [.deliver 0 [0x00, 0x7F, 0x80, 0x80, 0xFF, 0x00, 0x00]] := by decide
theorem test_encS7_P : shows State.events (exec (.encS7 P) (online 4)) =
    some [.deliver 0 [0x00, 0x00, 0x00, 0x01, 0x03, 0x40, 0x7F]] := by decide
theorem test_encS15_T3 : shows State.events (exec (.encS15 T3) (online 5)) =
    some [.deliver 0 [0x00, 0xFF, 0x7F, 0x00, 0x80, 0x01, 0x80, 0xFF, 0xFF, 0x01, 0x00, 0x00, 0x00]] := by decide
theorem test_encS15_P : shows State.events (exec (.encS15 P) (online 5)) =
    some [.deliver 0 [0x00, 0x00, 0x00, 0xFF, 0x00, 0x00, 0x01, 0xE8, 0x03, 0x00, 0x40, 0xFF, 0x7F]] := by decide
theorem test_encD7_T3 : shows State.events (exec (.encD7 T3) (online 6)) =
    some [.deliver 0 [0x00, 0x7F, 0x80, 0x80, 0xFF, 0x00, 0x00],
     .deliver 1 [0x00, 0x00, 0xFF, 0x01, 0xFF, 0x30, 0xCF]] := by decide
theorem test_encD7_P : shows State.events (exec (.encD7 P) (online 6)) =
    some [.deliver 0 [0x00, 0x00, 0x00, 0x01, 0x03, 0x40, 0x7F],
     .deliver 1 [0x00, 0x00, 0x00, 0x12, 0x56, 0x7D, 0x00]] := by decide
theorem test_encD15_T3 : shows State.events (exec (.encD15 T3) (online 7)) =
    some [.deliver 0 [0x00, 0xFF, 0x7F, 0x00, 0x80, 0x01, 0x80, 0xFF, 0xFF, 0x01, 0x00, 0x00, 0x00],
     .deliver 1 [0x00, 0xFF, 0x00, 0x01, 0xFF, 0x00, 0x01, 0x00, 0xFF, 0x39, 0x30, 0xC7, 0xCF]] := by decide
theorem test_encD15_P : shows State.events (exec (.encD15 P) (online 7)) =
    some [.deliver 0 [0x00, 0x00, 0x00, 0xFF, 0x00, 0x00, 0x01, 0xE8, 0x03, 0x00, 0x40, 0xFF, 0x7F],
     .deliver 1 [0x00, 0x01, 0x00, 0x80, 0x00, 0x34, 0x12, 0x78, 0x56, 0x00, 0x7D, 0x7F, 0x00]] := by decide
theorem test_encD8_buffers : shows (fun t => (t.ch, t.rb[0].toList.take 7, t.rb[1].toList.take 7)) (exec (.encD8 T1) (online 2)) =
    some (T1, [0, 1, 2, 3, 4, 5, 6], [0, 7, 8, 9, 10, 11, 12]) := by decide
theorem test_drop : shows (fun t => (regs t, t.ch, decide (t.rb = State.reset.rb), t.events))
    (exec (.drop 2 B) (mk 2 true 0 false [])) = some ((2, true, 0, false), B, true, []) := by decide
theorem test_update_dispatches_to_drop : shows (fun t => (t.ch, t.events)) (step (mk 7 true 0 false [.update (busOfChannels T1)])) =
    some (T1, []) := by decide
theorem test_update_samples_connected : shows State.events (step (mk 2 true 0 true [.update (busOfChannels B)])) =
    some [.deliver 0 [0, 0, 0, 0, 0, 0, 0x7D], .deliver 1 [0, 0, 0, 0, 0, 0, 0x83]] := by decide
theorem test_update_unconfigured : shows (fun t => (regs t, t.ch, t.events)) (step (mk 0 false 0 true [.update (busOfChannels T1)])) =
    some ((0, false, 3, true), State.reset.ch, []) := by decide
theorem test_update_faulted : shows (fun t => (regs t, t.ch, t.events)) (step (mk 0 true 2 true [.update (busOfChannels T1)])) =
    some ((0, true, 2, true), State.reset.ch, []) := by decide

/-! ### The primitives (spec/95 sections 3 and 4; R104, R113) -/

/-- The channels of R100's example. -/
def tens : ChannelVector := channelsOfInts #v[10, 20, 30, 40, 50, 60, 70, 80, 90, 100, 110, 120]

theorem test_mux_0_2 : shows State.primOut (exec (.mux 0 2) { online 0 with ch := tens }) = some (.channel 30) := by decide
theorem test_mux_1_5 : shows State.primOut (exec (.mux 1 5) { online 0 with ch := tens }) = some (.channel 120) := by decide
theorem test_cvt8_rounds_down : shows State.primOut (exec (.cvt8 (BitVec.ofInt 16 (-257))) (online 0)) = some (.byte 0xFE) := by decide
theorem test_cvt8_does_not_clamp : shows State.primOut (exec (.cvt8 (BitVec.ofInt 16 (-32513))) (online 0)) = some (.byte 0x80) := by decide
theorem test_cvt16_low_first : shows State.primOut (exec (.cvt16 (BitVec.ofInt 16 1000)) (online 0)) = some (.bytes 0xE8 0x03) := by decide
theorem test_cvt16_negative : shows State.primOut (exec (.cvt16 (BitVec.ofInt 16 (-32767))) (online 0)) = some (.bytes 0x01 0x80) := by decide
theorem test_btn : shows State.primOut (exec .btn (online 7)) = some (.byte 0) := by decide
theorem test_build_16 : shows (fun t => (t.rb[0].toList, t.rb[1])) (exec (.build 0) { online 1 with ch := channelsOfInts #v[100, -100, 0, 0, 0, 0, 0, 0, 0, 0, 0, 0] }) =
    some (([0x00, 0x64, 0x00, 0x9C, 0xFF, 0, 0, 0, 0, 0, 0, 0, 0] : List Byte), State.reset.rb[1]) := by decide
theorem test_build_8_keeps_the_tail : shows (fun t => (t.rb[0], t.rb[1].toList))
    (exec (.build 1) { online 2 with ch := B, rb := #v[State.reset.rb[0], #v[9, 9, 9, 9, 9, 9, 9, 9, 9, 9, 9, 9, 9]] }) =
    some (State.reset.rb[0], [0, 0, 0, 0, 0, 0, 0x83, 9, 9, 9, 9, 9, 9]) := by decide
theorem test_deliver_8 : shows State.events
    (exec (.deliver 1) { online 2 with rb := #v[State.reset.rb[0], #v[0, 0, 0, 0, 0, 0, 0x83, 9, 9, 9, 9, 9, 9]] }) =
    some [.deliver 1 [0, 0, 0, 0, 0, 0, 0x83]] := by decide
theorem test_deliver_16 : shows State.events
    (exec (.deliver 0) { online 3 with rb := #v[#v[0, 1, 2, 3, 4, 5, 6, 7, 8, 9, 10, 11, 12], State.reset.rb[1]] }) =
    some [.deliver 0 [0, 1, 2, 3, 4, 5, 6, 7, 8, 9, 10, 11, 12]] := by decide

/-! ### The environment and RESET (spec/95 sections 7 to 9) -/

theorem test_connect : shows regs (exec .connect (mk 4 true 2 false [])) = some (4, true, 2, true) := by decide
theorem test_disconnect_while_faulted : shows regs (exec .disconnect (mk 0 true 2 true [])) = some (0, true, 2, false) := by decide
theorem test_reset_from_fault : shows (fun t => (t.configured, t.fault, t.connected, t.events)) (exec .reset (mk 0 true 2 true [])) =
    some (false, 0, true, []) := by decide
theorem test_reset_from_ready : shows (fun t => (t.configured, t.fault, t.connected)) (exec .reset (mk 6 true 0 false [])) =
    some (false, 0, false) := by decide
theorem test_fetch_word_from_reset : shows (fun t => (t.mode.toNat, t.configured)) (step (State.reset.withFetchWord 8 6)) =
    some (6, true) := by decide

/-! ### The descriptor (spec/93 section 3) -/

theorem test_candidate_lengths : [Mode.s8, .s16, .d8, .d16, .s7, .s15, .d7, .d15].map (fun m => (candidateDesc m).length) =
    [49, 51, 98, 102, 49, 50, 98, 100] := by decide
theorem test_candidate_meets_the_law : DescriptorLaw candidateDesc := by
  intro m
  cases m <;> decide

/-! ### Lines (R68) and ports (R67) -/

theorem test_update1_bus : (Line.update1 #v[100, -100, 0, 0, 0, 0]).request =
    .update 0x0000000000000000000000000000000000000000FF9C0064 := by decide
theorem test_deliver_text : (Event.deliver 0 [0x00, 0x64, 0x9C]).text = "DELIVER 0 [0x00, 0x64, 0x9C]" := by decide
theorem test_configure_text : (Line.configure .s16).text = "CONFIGURE SINGLE_16BIT" := by decide
theorem test_read_update : lineOfText "UPDATE [100, -100, 0, 0, 0, 0, 0, 0, 0, 0, 0, -32768] ; a comment".toList =
    some (.update #v[100, -100, 0, 0, 0, 0, 0, 0, 0, 0, 0, -32768]) := by decide
theorem test_read_short_vector : lineOfText "UPDATE [1, 2, 3]".toList = none := by decide
theorem test_read_program : requestsOfProgram ["CONFIGURE DUAL_16BIT".toList, "".toList, " CONNECT".toList] =
    some [.configure 3, .setConnected 1] := by decide
theorem test_reset_wins : PortInputs.requests ⟨true, true, 3, true, 0, true⟩ = [.setConnected 1, .reset] := by decide

/-! ### Witnesses: for every statement with hypotheses, concrete values that meet them -/

/-- An UPDATE request for a vector. -/
def upd (v : ChannelVector) : Request := .update (busOfChannels v)

/-- A READY state that has published a DUAL_8BIT descriptor and delivered one update. -/
def afterDual (pending : List Request) : State :=
  { mk 2 true 0 true pending with
    events := [.publish 2 (Config.desc .d8), .deliver 0 [0, 1, 2, 3, 4, 5, 6], .deliver 1 [0, 7, 8, 9, 10, 11, 12]] }

theorem test_witness_DescriptorAgreesWithModeTable : ∃ desc, DescriptorLaw desc ∧ desc .s8 = desc .s8 :=
  ⟨candidateDesc, test_candidate_meets_the_law, rfl⟩

theorem test_witness_issuable_codes :
    [Code.mk .cfg 0 0, ⟨.cfg, 7, 0⟩, ⟨.upd, 0, 0⟩, ⟨.upd, 15, -1⟩, ⟨.env, 0, 0⟩, ⟨.env, 1, 0⟩, ⟨.rst, 0, 0⟩].all Code.wellFormed = true ∧
    ∀ p, Format.cfg ≠ .prim p ∧ Format.upd ≠ .prim p ∧ Format.env ≠ .prim p ∧ Format.rst ≠ .prim p :=
  ⟨by decide, fun _ => by simp⟩

theorem test_witness_EncodeDecodeRoundTrip : ∃ c : Code, c.wellFormed = true ∧ ∀ p, c.fmt ≠ .prim p :=
  ⟨⟨.upd, 15, -1⟩, by decide, by simp⟩

theorem test_witness_ExactlyOneRowSelects : ∃ c : Code, c.wellFormed = true ∧ ∀ p, c.fmt ≠ .prim p :=
  ⟨⟨.cfg, 7, 0⟩, by decide, by simp⟩

theorem test_witness_DecodedRowSelectsItsCode : decode ⟨.prim .cvt16, 7, 0xFFFF⟩ = .ok (.cvt16 0xFFFF) := by decide

theorem test_witness_MalformedCodesRejectedByName :
    8 ≤ 8 ∧ 16 ≤ 16 ∧ 2 ≤ 2 ∧ (7 < 8 ∧ 7 % 2 = 1) ∧ (0 < 8 ∧ 0 % 2 = 0) := by decide

theorem test_witness_StepRunsDecodedOperation :
    (∃ (s : State) (r : Request) (rest : List Request) (i : Instr), s.pending = r :: rest ∧ decode (r.code s) = .ok i) ∧
    ∃ s : State, s.pending = [] :=
  ⟨⟨mk 5 true 0 true [upd P], _, _, _, rfl, rfl⟩, mk 0 false 0 false [], rfl⟩

theorem test_witness_EachRequestRunsItsRow :
    (mk 0 false 0 false [.configure (wordOfMode .d15).toNat]).pending = .configure (wordOfMode .d15).toNat :: [] ∧
    ((mk 7 true 0 false [upd T1]).pending = upd T1 :: [] ∧ (mk 7 true 0 false [upd T1]).ready ∧
      (mk 7 true 0 false [upd T1]).connected = false) ∧
    ((mk 0 true 0 true [upd T1]).pending = upd T1 :: [] ∧ (mk 0 true 0 true [upd T1]).ready ∧
      (mk 0 true 0 true [upd T1]).connected = true) ∧
    (mk 0 false 0 false [.setConnected 1]).pending = .setConnected 1 :: [] ∧
    (mk 0 false 0 false [.setConnected 0]).pending = .setConnected 0 :: [] ∧
    (mk 0 false 0 false [.reset]).pending = .reset :: [] :=
  ⟨rfl, ⟨rfl, ⟨rfl, rfl⟩, rfl⟩, ⟨rfl, ⟨rfl, rfl⟩, rfl⟩, rfl, rfl, rfl⟩

theorem test_witness_FetchWordRunsNext : decodeTableWord 8 15 = some (.encD15 (channelsOfBus 0)) ∧
    decodeTableWord 8 7 = some .cfgD15 ∧ decodeTableWord 4 0 = some (.drop 0 (channelsOfBus 0)) ∧
    decodeTableWord 1 0 = some .disconnect ∧ decodeTableWord 0 0 = some .reset := by decide

theorem test_witness_ConfigureActivatesItsMode : (mk 0 false 0 true []).unconfigured := ⟨rfl, rfl⟩

theorem test_witness_SecondConfigureLatchesReconfigure :
    (mk 0 true 0 false [.configure 0]).ready ∧ (mk 0 true 0 false [.configure 0]).pending = .configure 0 :: [] ∧
    (mk 0 true 0 false [.configure 9]).ready ∧ (mk 0 true 0 false [.configure 9]).pending = .configure 9 :: [] :=
  ⟨⟨rfl, rfl⟩, rfl, ⟨rfl, rfl⟩, rfl⟩

theorem test_witness_UndefinedModeLatchesInvalidMode :
    (mk 0 false 0 false [.configure 8]).unconfigured ∧ 8 ≤ 8 ∧ (mk 0 false 0 false [.configure 8]).pending = .configure 8 :: [] :=
  ⟨⟨rfl, rfl⟩, by decide, rfl⟩

theorem test_witness_UpdateBeforeConfigureLatchesNotConfigured :
    (mk 0 false 0 true [upd T1]).unconfigured ∧ (mk 0 false 0 true [upd T1]).pending = upd T1 :: [] :=
  ⟨⟨rfl, rfl⟩, rfl⟩

theorem test_witness_DropCapturesAndEmitsNothing : ∃ s t u : State, s.ready ∧ s.connected = false ∧
    s.pending = .update (busOfChannels T1) :: .setConnected 1 :: [] ∧ step s = .next t ∧ step t = .next u :=
  ⟨mk 2 true 0 false [upd T1, .setConnected 1], _, _, ⟨rfl, rfl⟩, rfl, rfl, rfl, rfl⟩

theorem test_witness_EncS8DeliversOneReport : (online 0).ready ∧ (online 0).connected = true ∧ (online 0).mode = 0b000 :=
  ⟨⟨rfl, rfl⟩, rfl, rfl⟩
theorem test_witness_EncS16DeliversOneReport : (online 1).ready ∧ (online 1).connected = true ∧ (online 1).mode = 0b001 :=
  ⟨⟨rfl, rfl⟩, rfl, rfl⟩
theorem test_witness_EncD8DeliversTwoReports : (online 2).ready ∧ (online 2).connected = true ∧ (online 2).mode = 0b010 :=
  ⟨⟨rfl, rfl⟩, rfl, rfl⟩
theorem test_witness_EncD16DeliversTwoReports : (online 3).ready ∧ (online 3).connected = true ∧ (online 3).mode = 0b011 :=
  ⟨⟨rfl, rfl⟩, rfl, rfl⟩
theorem test_witness_EncS7DeliversOneReport : (online 4).ready ∧ (online 4).connected = true ∧ (online 4).mode = 0b100 :=
  ⟨⟨rfl, rfl⟩, rfl, rfl⟩
theorem test_witness_EncS15DeliversOneReport : (online 5).ready ∧ (online 5).connected = true ∧ (online 5).mode = 0b101 :=
  ⟨⟨rfl, rfl⟩, rfl, rfl⟩
theorem test_witness_EncD7DeliversTwoReports : (online 6).ready ∧ (online 6).connected = true ∧ (online 6).mode = 0b110 :=
  ⟨⟨rfl, rfl⟩, rfl, rfl⟩
theorem test_witness_EncD15DeliversTwoReports : (online 7).ready ∧ (online 7).connected = true ∧ (online 7).mode = 0b111 :=
  ⟨⟨rfl, rfl⟩, rfl, rfl⟩

theorem test_witness_EncS7_ranges : (0 ≤ (BitVec.ofInt 16 0).toInt ∧ 0 ≤ (BitVec.ofInt 16 32767).toInt) ∧
    ((BitVec.ofInt 16 (-1)).toInt < 0 ∧ (BitVec.ofInt 16 (-32768)).toInt < 0) := by decide

theorem test_witness_UpdateStepIsPseudocode : (mk 3 true 0 true [upd T3]).pending = upd T3 :: [] ∧
    (mk 3 false 0 true [upd T3]).pending = upd T3 :: [] ∧ (mk 3 true 1 true [upd T3]).pending = upd T3 :: [] :=
  ⟨rfl, rfl, rfl⟩

theorem test_witness_UpdateEmitsPureContract :
    (mk 3 true 0 true [upd T3]).pending = upd T3 :: [] ∧ (mk 3 true 0 true [upd T3]).ready := ⟨rfl, ⟨rfl, rfl⟩⟩

theorem test_witness_UpdateIsStateless :
    (∃ s1 s2 t1 t2 : State, s1 ≠ s2 ∧ s1.pending = upd P :: [] ∧ s2.pending = upd P :: [] ∧ s1.ready ∧ s2.ready ∧
      s1.mode = s2.mode ∧ s1.connected = s2.connected ∧ step s1 = .next t1 ∧ step s2 = .next t2) ∧
    (∃ s t t' : State, s.pending = upd P :: upd P :: [] ∧ step s = .next t ∧ step t = .next t' ∧ s.ready) :=
  ⟨⟨mk 2 true 0 true [upd P], { mk 2 true 0 true [upd P] with ch := T3 }, _, _, by decide, rfl, rfl, ⟨rfl, rfl⟩, ⟨rfl, rfl⟩,
    rfl, rfl, rfl, rfl⟩, ⟨mk 2 true 0 true [upd P, upd P], _, _, rfl, rfl, rfl, ⟨rfl, rfl⟩⟩⟩

/-- B with channel 0 replaced by 1000 (F10), and with channel 11 replaced. -/
def B1 : ChannelVector := channelsOfInts #v[1000, 0, 0, 0, 0, 32000, 0, 0, 0, 0, 0, -32000]
@[inherit_doc B1] def B2 : ChannelVector := channelsOfInts #v[0, 0, 0, 0, 0, 32000, 0, 0, 0, 0, 0, 1]

theorem test_witness_ReportsIgnoreOtherChannels : ∃ s t1 t2 t3 : State, s.ready ∧
    step { s with pending := [upd B] } = .next t1 ∧ step { s with pending := [upd B1] } = .next t2 ∧
    step { s with pending := [upd B2] } = .next t3 ∧
    (∀ i : Fin 12, 6 ≤ i.val → (channelsOfBus (busOfChannels B))[i] = (channelsOfBus (busOfChannels B1))[i]) ∧
    (∀ i : Fin 12, i.val < 6 → (channelsOfBus (busOfChannels B))[i] = (channelsOfBus (busOfChannels B2))[i]) ∧
    fieldD s.mode = true :=
  ⟨online 2, _, _, _, ⟨rfl, rfl⟩, rfl, rfl, rfl, by simp only [channelsOfBus_busOfChannels]; decide,
    by simp only [channelsOfBus_busOfChannels]; decide, rfl⟩

theorem test_witness_ReportsIgnoreOtherChannels_single : (online 0).ready ∧ fieldD (online 0).mode = false := ⟨⟨rfl, rfl⟩, rfl⟩

theorem test_witness_AxisFieldDependsOnItsChannel :
    B[6 * (1 : Fin 2).val + (5 : Fin 6).val]'(by decide) = B1[6 * (1 : Fin 2).val + (5 : Fin 6).val]'(by decide) ∧ B ≠ B1 ∧
    axisWidth .d8 = 8 ∧ axisWidth .d16 = 16 := by decide

theorem test_witness_LawsBetweenEncodings : ∃ s t t' u u' : State, s.ready ∧
    exec (.encS8 V) s = .next t ∧ exec (.encD8 V) s = .next t' ∧
    exec (.encS16 V) s = .next u ∧ exec (.encD16 V) s = .next u' :=
  ⟨online 0, _, _, _, _, ⟨rfl, rfl⟩, rfl, rfl, rfl, rfl⟩

theorem test_witness_NoChannelValueIsAFault : ∃ s t : State, s.pending = upd T2 :: [] ∧ s.ready ∧ step s = .next t :=
  ⟨mk 4 true 0 true [upd T2], _, rfl, ⟨rfl, rfl⟩, rfl⟩

theorem test_witness_ObeyedRangesStayDeclared :
    (∃ ch : ChannelVector, callerObeys .d7 ch ∧ (rangeFor .d7).1 = 0 ∧ axisWidth .d7 = 8 ∧ ch = P) ∧
    (∃ ch : ChannelVector, callerObeys .d15 ch ∧ (rangeFor .d15).1 = 0 ∧ axisWidth .d15 = 16 ∧ ch = P) ∧
    256 * (rangeFor .s8).1 ≤ (BitVec.ofInt 16 (-32512)).toInt ∧ ¬ 256 * (rangeFor .s8).1 ≤ (BitVec.ofInt 16 (-32513)).toInt ∧
    (rangeFor .s16).1 ≤ (BitVec.ofInt 16 (-32767)).toInt ∧ ¬ (rangeFor .s16).1 ≤ (BitVec.ofInt 16 (-32768)).toInt :=
  ⟨⟨P, ⟨fun h => by simp [reportCount, modeParams] at h, fun _ => by decide⟩, rfl, rfl, rfl⟩,
   ⟨P, ⟨fun h => by simp [reportCount, modeParams] at h, fun _ => by decide⟩, rfl, rfl, rfl⟩, by decide, by decide, by decide, by decide⟩

theorem test_witness_Cvt_boundaries :
    [0, 255, 256, 300, 1000, 32000, 32767, -1, -100, -256, -300, -32000, -32512, -32513, -32767, -32768].all
      (fun z : Int => decide ((BitVec.ofInt 16 z).toInt = z)) = true := by decide

theorem test_witness_ButtonByteIsZero : ∃ s t : State, s.pending = upd T3 :: [] ∧ step s = .next t ∧
    Event.deliver 1 [0, 0, 0xFF, 1, 0xFF, 0x30, 0xCF] ∈ emitted s t :=
  ⟨mk 2 true 0 true [upd T3], _, rfl, rfl, by decide⟩

theorem test_witness_BuildWritesTheReport : fieldW (online 2).mode = false ∧ fieldW (online 3).mode = true ∧
    reportLength (modeOfWord (online 2).mode) ≤ 7 ∧
    ∃ s t u t' u' : State, exec (.build 0) s = .next t ∧ exec (.build 1) t = .next u ∧
      exec (.build 1) s = .next t' ∧ exec (.build 0) t' = .next u' :=
  ⟨rfl, rfl, by decide, online 3, _, _, _, _, rfl, rfl, rfl, rfl⟩

theorem test_witness_ConnectWritesOnlyConnected : ∃ s t u : State, s.ready ∧ s.pending = .setConnected 1 :: upd B :: [] ∧
    step s = .next t ∧ step t = .next u :=
  ⟨mk 2 true 0 false [.setConnected 1, upd B], _, _, ⟨rfl, rfl⟩, rfl, rfl, rfl⟩

theorem test_witness_DisconnectWritesOnlyConnected :
    (∃ s t u : State, s.ready ∧ s.pending = .setConnected 0 :: upd B :: [] ∧ step s = .next t ∧ step t = .next u) ∧
    (∃ s t u : State, s.ready ∧ s.connected = true ∧ s.pending = upd B :: .setConnected 0 :: [] ∧
      step s = .next t ∧ step t = .next u) :=
  ⟨⟨mk 2 true 0 true [.setConnected 0, upd B], _, _, ⟨rfl, rfl⟩, rfl, rfl, rfl⟩,
   ⟨mk 2 true 0 true [upd B, .setConnected 0], _, _, ⟨rfl, rfl⟩, rfl, rfl, rfl, rfl⟩⟩

theorem test_witness_EachItemHasItsWriters :
    shows (fun t => (decide (t.ch = State.reset.ch), decide (t.rb = State.reset.rb), t.events.length)) (exec (.encD16 T1) (online 3)) =
      some (false, false, 2) ∧
    shows regs (exec .cfgD8 (mk 0 false 0 false [])) = some (2, true, 0, false) ∧
    shows regs (exec .cfgD8 (mk 0 true 0 false [])) = some (0, true, 2, false) ∧
    shows regs (exec .connect (mk 0 false 0 false [])) = some (0, false, 0, true) := by decide

theorem test_witness_FaultedBlockIgnoresOperations :
    (mk 0 true 2 true [upd T1]).fault ≠ 0 ∧ (mk 0 true 2 true [upd T1]).pending = upd T1 :: [] ∧ upd T1 ≠ .reset ∧
    (∀ v, upd T1 ≠ .setConnected v) :=
  ⟨by decide, rfl, by decide, by decide⟩

theorem test_witness_FaultEntryIsPrecise : ∃ s t : State, step s = .next t ∧ s.fault = 0 ∧ t.fault ≠ 0 ∧ t.fault = 1 :=
  ⟨mk 0 false 0 true [.configure 8], _, rfl, rfl, by decide, rfl⟩

theorem test_witness_ActiveModeIsImmutable : ∃ s t : State, step s = .next t ∧ s.configured = true ∧
    s.pending.head? ≠ some .reset :=
  ⟨mk 4 true 0 true [.configure 3], _, rfl, rfl, by decide⟩

theorem test_witness_PhaseTransitions :
    (∃ s t : State, step s = .next t ∧ s.phase = .unconfigured ∧ t.phase = .ready) ∧
    (∃ s t : State, step s = .next t ∧ s.phase = .ready ∧ t.phase = .faulted) ∧
    (∃ s t : State, step s = .next t ∧ s.phase = .faulted ∧ t.phase = .unconfigured) :=
  ⟨⟨mk 0 false 0 true [.configure 7], _, rfl, rfl, rfl⟩, ⟨mk 0 true 0 true [.configure 7], _, rfl, rfl, rfl⟩,
   ⟨mk 0 true 2 true [.reset], _, rfl, rfl, rfl⟩⟩

theorem test_witness_FailedCheckReadsNothing :
    (∃ s t : State, s.pending = upd T1 :: [] ∧ ¬ s.ready ∧ step s = .next t ∧ t.fault = 3) ∧
    (∃ s t : State, s.pending = upd T1 :: [] ∧ ¬ s.ready ∧ step s = .next t ∧ t.fault = 2) :=
  ⟨⟨mk 0 false 0 true [upd T1], _, rfl, fun h => absurd h.2 (by decide), rfl, rfl⟩,
   ⟨mk 0 true 2 true [upd T1], _, rfl, fun h => absurd h.1 (by decide), rfl, rfl⟩⟩

theorem test_witness_OnlyConfigurePublishes : ∃ s t : State, step s = .next t ∧
    Event.publish 3 (Config.desc .d16) ∈ emitted s t :=
  ⟨mk 0 false 0 true [.configure 3], _, rfl, List.mem_singleton.2 rfl⟩

theorem test_witness_EveryStepKeepsCoherence : ∃ s t : State, s.coherent ∧ s.configured = true ∧ s.events ≠ [] ∧
    step s = .next t :=
  ⟨afterDual [upd T1], _,
    ⟨⟨.open .d8, ⟨.open .d8, ⟨rfl, by simp, rfl⟩, .owed .d8, ⟨rfl, ⟨rfl, rfl⟩, rfl⟩, .open .d8, ⟨rfl, ⟨rfl, rfl⟩, rfl⟩, rfl⟩,
      by simp, fun _ => rfl⟩, fun _ => rfl, fun h => by simp [afterDual, mk, Cause.code] at h⟩,
    rfl, by simp [afterDual], rfl⟩

theorem test_witness_PortRequestPriority : (PortInputs.mk true true 7 true 0 false).rst_i = true ∧
    (PortInputs.mk false true 7 true 0 false).rst_i = false ∧ (PortInputs.mk false true 7 true 0 false).cfg_valid_i = true ∧
    (PortInputs.mk false true 7 true 0 false).upd_valid_i = true ∧
    .configure 7 ∈ (PortInputs.mk false true 7 true 0 false).requests := by decide

theorem test_witness_ReportPortCarriesEveryByte : ([0, 1, 2, 3, 4, 5, 6, 7, 8, 9, 10, 11, 12] : List Byte).length ≤ 13 := by decide

theorem test_witness_descriptor_has_a_byte (desc : Mode → List Byte) (h : DescriptorLaw desc) (m : Mode) :
    0 < (desc m).length := by
  apply List.length_pos_iff.2
  intro e
  have hm := h m
  rw [e] at hm
  revert hm
  cases m <;> decide

theorem test_witness_StatusOutputsShowRegisters : (mk 6 true 2 false []).configured = true := rfl

theorem test_witness_LinesExpandToTheirChannels :
    (Line.update #v[-32768, 32767, 0, -1, 1, 0, 0, 0, 0, 0, 0, 0]).valid = true := by decide

end Sys2Proof.Tests
end

/-! PROOFS. The report encoder (spec/42_report_encoder.md): DROP, the eight encodings, and UPDATE keeping nothing of
an earlier UPDATE. The shared lemmas come first: the decoding of a dispatch word, the two bytes of a channel, an
encoding row in phase READY by its report count and axis width, and the step on an UPDATE. -/

namespace Sys2Proof.Machine

/-! ### Decoding -/

/-- The decoder cuts the channels out of the bus and reads the row from the dispatch word (R63, R67). -/
theorem decode_upd_busOfChannels (w : Nat) (ch : ChannelVector) :
    decode ⟨.upd, w, busOfChannels ch⟩ = decodeUpd w ch := by
  simp [decode]

/-! ### The two bytes of a channel -/

/-- The high byte is the pattern divided by 256. -/
theorem toNat_hiByte (v : Chan) : (hiByte v).toNat = v.toNat / 256 := by
  have hv := v.isLt
  simp only [hiByte, BitVec.extractLsb'_toNat, Nat.shiftRight_eq_div_pow]
  omega

/-- A non-negative channel has a high byte up to `0x7F` (R119, R120). -/
theorem hiByte_le_of_nonneg (v : Chan) (h : 0 ≤ v.toInt) : hiByte v ≤ 0x7F#8 := by
  rw [BitVec.toInt_eq_toNat_cond] at h
  rw [BitVec.le_def, toNat_hiByte, BitVec.toNat_ofNat]
  omega

/-- A negative channel has a high byte from `0x80` (R119). -/
theorem le_hiByte_of_neg (v : Chan) (h : v.toInt < 0) : 0x80#8 ≤ hiByte v := by
  rw [BitVec.toInt_eq_toNat_cond] at h
  rw [BitVec.le_def, toNat_hiByte, BitVec.toNat_ofNat]
  omega

/-- A channel reads back from its two bytes (R120). -/
theorem hiByte_append_loByte (v : Chan) : hiByte v ++ loByte v = v := by
  have happ : hiByte v ++ loByte v = v.extractLsb' 0 16 :=
    BitVec.extractLsb'_append_extractLsb'_eq_extractLsb' rfl
  rw [happ, BitVec.extractLsb'_eq_self]

/-! ### The report of a mode, written out -/

/-- In the 8-bit layout a report is the button byte and six high bytes (R41). -/
theorem contractReport_eq_report8 (m : Mode) (ch : ChannelVector) (g : Fin 2) (h : axisWidth m = 8) :
    contractReport m ch g =
      report8 (mux ch g 0) (mux ch g 1) (mux ch g 2) (mux ch g 3) (mux ch g 4) (mux ch g 5) := by
  simp [contractReport, axisIndices, fieldBytes, h, report8, hiByte, mux]

/-- In the 16-bit layout a report is the button byte and six channels, low byte first (R42). -/
theorem contractReport_eq_report16 (m : Mode) (ch : ChannelVector) (g : Fin 2) (h : axisWidth m = 16) :
    contractReport m ch g =
      report16 (mux ch g 0) (mux ch g 1) (mux ch g 2) (mux ch g 3) (mux ch g 4) (mux ch g 5) := by
  simp [contractReport, axisIndices, fieldBytes, h, report16, loByte, hiByte, mux]

/-! ### The UPD rows in phase READY -/

/-- In phase READY both checks of UPDATE pass (R110). -/
theorem updateThen_of_ready (after : State → State) (ch : ChannelVector) (s : State) (h : s.ready) :
    updateThen after ch s = after (capture ch s) := by
  obtain ⟨hf, hc⟩ := h
  simp [updateThen, hf, hc]

/-- The row of a mode sends the reports of that mode (R115 to R122). -/
theorem exec_encodingRow (m : Mode) (ch : ChannelVector) (s : State) :
    exec (encodingRow ch m) s = .next (updateThen (sendReports m) ch s) := by
  cases m <;> rfl

/-- DROP in phase READY is the capture (R112). -/
theorem exec_drop_of_ready (mmm : BitVec 3) (ch : ChannelVector) (s : State) (h : s.ready) :
    exec (.drop mmm ch) s = .next (capture ch s) := by
  have hexec : exec (.drop mmm ch) s = .next (updateThen (fun s' => s') ch s) := rfl
  rw [hexec, updateThen_of_ready _ ch s h]

/-- A single encoding in phase READY: one event, and buffer 0 holds the report. -/
theorem exec_encodingRow_single (m : Mode) (ch : ChannelVector) (s : State) (h : s.ready) (hn : reportCount m = 1) :
    ∃ r0, exec (encodingRow ch m) s = .next
      { s with ch := ch, rb := #v[r0, s.rb[1]]
               events := s.events ++ [.deliver 0 (contractReport m ch 0)] } ∧
      holds r0 s.rb[0] (contractReport m ch 0) := by
  refine ⟨buildReport m ch 0 s.rb[0], ?_, holds_buildReport m ch 0 s.rb[0]⟩
  rw [exec_encodingRow, updateThen_of_ready _ ch s h, sendReports_single m _ hn]
  rfl

/-- A dual encoding in phase READY: two events in order, and the two buffers hold the reports. -/
theorem exec_encodingRow_dual (m : Mode) (ch : ChannelVector) (s : State) (h : s.ready) (hn : reportCount m = 2) :
    ∃ r0 r1, exec (encodingRow ch m) s = .next
      { s with ch := ch, rb := #v[r0, r1]
               events := s.events ++ [.deliver 0 (contractReport m ch 0), .deliver 1 (contractReport m ch 1)] } ∧
      holds r0 s.rb[0] (contractReport m ch 0) ∧ holds r1 s.rb[1] (contractReport m ch 1) := by
  refine ⟨buildReport m ch 0 s.rb[0], buildReport m ch 1 s.rb[1], ?_, holds_buildReport m ch 0 s.rb[0],
    holds_buildReport m ch 1 s.rb[1]⟩
  rw [exec_encodingRow, updateThen_of_ready _ ch s h, sendReports_dual m _ hn]
  rfl

/-- A single encoding of the 8-bit layout (R115, R119). -/
theorem exec_encodingRow_single8 (m : Mode) (ch : ChannelVector) (s : State) (h : s.ready) (hn : reportCount m = 1)
    (hw : axisWidth m = 8) :
    ∃ r0, exec (encodingRow ch m) s = .next
      { s with ch := ch, rb := #v[r0, s.rb[1]]
               events := s.events ++ [.deliver 0 (report8 ch[0] ch[1] ch[2] ch[3] ch[4] ch[5])] } ∧
      holds r0 s.rb[0] (report8 ch[0] ch[1] ch[2] ch[3] ch[4] ch[5]) := by
  have hexec := exec_encodingRow_single m ch s h hn
  rw [contractReport_eq_report8 m ch 0 hw] at hexec
  exact hexec

/-- A single encoding of the 16-bit layout (R116, R120). -/
theorem exec_encodingRow_single16 (m : Mode) (ch : ChannelVector) (s : State) (h : s.ready) (hn : reportCount m = 1)
    (hw : axisWidth m = 16) :
    ∃ r0, exec (encodingRow ch m) s = .next
      { s with ch := ch, rb := #v[r0, s.rb[1]]
               events := s.events ++ [.deliver 0 (report16 ch[0] ch[1] ch[2] ch[3] ch[4] ch[5])] } ∧
      holds r0 s.rb[0] (report16 ch[0] ch[1] ch[2] ch[3] ch[4] ch[5]) := by
  have hexec := exec_encodingRow_single m ch s h hn
  rw [contractReport_eq_report16 m ch 0 hw] at hexec
  exact hexec

/-- A dual encoding of the 8-bit layout (R117, R121). -/
theorem exec_encodingRow_dual8 (m : Mode) (ch : ChannelVector) (s : State) (h : s.ready) (hn : reportCount m = 2)
    (hw : axisWidth m = 8) :
    ∃ r0 r1, exec (encodingRow ch m) s = .next
      { s with ch := ch, rb := #v[r0, r1]
               events := s.events ++ [.deliver 0 (report8 ch[0] ch[1] ch[2] ch[3] ch[4] ch[5]),
                 .deliver 1 (report8 ch[6] ch[7] ch[8] ch[9] ch[10] ch[11])] } ∧
      holds r0 s.rb[0] (report8 ch[0] ch[1] ch[2] ch[3] ch[4] ch[5]) ∧
      holds r1 s.rb[1] (report8 ch[6] ch[7] ch[8] ch[9] ch[10] ch[11]) := by
  have hexec := exec_encodingRow_dual m ch s h hn
  rw [contractReport_eq_report8 m ch 0 hw, contractReport_eq_report8 m ch 1 hw] at hexec
  exact hexec

/-- A dual encoding of the 16-bit layout (R118, R122). -/
theorem exec_encodingRow_dual16 (m : Mode) (ch : ChannelVector) (s : State) (h : s.ready) (hn : reportCount m = 2)
    (hw : axisWidth m = 16) :
    ∃ r0 r1, exec (encodingRow ch m) s = .next
      { s with ch := ch, rb := #v[r0, r1]
               events := s.events ++ [.deliver 0 (report16 ch[0] ch[1] ch[2] ch[3] ch[4] ch[5]),
                 .deliver 1 (report16 ch[6] ch[7] ch[8] ch[9] ch[10] ch[11])] } ∧
      holds r0 s.rb[0] (report16 ch[0] ch[1] ch[2] ch[3] ch[4] ch[5]) ∧
      holds r1 s.rb[1] (report16 ch[6] ch[7] ch[8] ch[9] ch[10] ch[11]) := by
  have hexec := exec_encodingRow_dual m ch s h hn
  rw [contractReport_eq_report16 m ch 0 hw, contractReport_eq_report16 m ch 1 hw] at hexec
  exact hexec

/-! ### The step on an UPDATE in phase READY -/

/-- With CONNECTED = 0 the step is the capture: RB too is as before (R112). -/
theorem step_update_disconnected (s : State) (b : BitVec 192) (rest : List Request) (h : s.pending = .update b :: rest)
    (hr : s.ready) (hc : s.connected = false) :
    step s = .next { s with pending := rest, ch := channelsOfBus b } := by
  have ⟨hfault, hconf⟩ := hr
  have hword : s.dispatchWord = s.mode.toNat := by simp [dispatchWord_ready s hfault hconf, hc]
  simp only [step, fetch_cons s _ _ h, Request.code, decode, hword, decodeUpd_drop]
  exact exec_drop_of_ready s.mode (channelsOfBus b) { s with pending := rest } hr

/-- Everything the step changes in phase READY (R110, R123). -/
theorem step_update_of_ready (s : State) (b : BitVec 192) (rest : List Request) (h : s.pending = .update b :: rest)
    (hr : s.ready) :
    ∃ rb', step s = .next
      { s with pending := rest, ch := channelsOfBus b, rb := rb'
               events := s.events ++
                 deliverEvents (encodeContract (modeOfWord s.mode) (channelsOfBus b) s.connected) } := by
  obtain ⟨hf, hc⟩ := hr
  rcases step_of_update s b rest h with ⟨hf', _⟩ | ⟨_, hc', _⟩ | ⟨_, _, hstep⟩
  · exact absurd hf hf'
  · exact absurd (hc.symm.trans hc') (by decide)
  · exact hstep

/-- What an UPDATE emits in phase READY is a function of MODE, the vector and CONNECTED (R123, R124). -/
theorem emitted_update_of_ready (s t : State) (b : BitVec 192) (rest : List Request)
    (h : s.pending = .update b :: rest) (hr : s.ready) (hst : step s = .next t) :
    emitted s t = deliverEvents (encodeContract (modeOfWord s.mode) (channelsOfBus b) s.connected) := by
  obtain ⟨rb', hstep⟩ := step_update_of_ready s b rest h hr
  cases hstep.symm.trans hst
  exact List.drop_left

/-! ### The obligations -/

/-- Settles O20: DROP is the capture, and a CONNECT after it writes CONNECTED only. -/
theorem dropCapturesAndEmitsNothing : Obligations.DropCapturesAndEmitsNothing := by
  refine ⟨fun mmm ch => ?_, fun s ch hr _ => exec_drop_of_ready s.mode ch s hr, fun _ _ => rfl, ?_⟩
  · rw [decode_upd_busOfChannels, decodeUpd_drop]
  · intro s t u b rest hr hc hp hst htu
    cases (step_update_disconnected s b _ hp hr hc).symm.trans hst
    cases (step_of_setConnected _ 1 rest rfl).symm.trans htu
    exact ⟨rfl, rfl, rfl⟩

/-- Settles O21: the single row of the 8-bit layout under mode word 0. -/
theorem encS8DeliversOneReport : Obligations.EncS8DeliversOneReport :=
  ⟨decode_upd_busOfChannels _, fun s ch hr _ _ => exec_encodingRow_single8 .s8 ch s hr rfl rfl, by decide⟩

/-- Settles O22: the single row of the 16-bit layout under mode word 1. -/
theorem encS16DeliversOneReport : Obligations.EncS16DeliversOneReport :=
  ⟨decode_upd_busOfChannels _, fun s ch hr _ _ => exec_encodingRow_single16 .s16 ch s hr rfl rfl, by decide, by decide⟩

/-- Settles O23: the dual row of the 8-bit layout under mode word 2. -/
theorem encD8DeliversTwoReports : Obligations.EncD8DeliversTwoReports :=
  ⟨decode_upd_busOfChannels _, fun s ch hr _ _ => exec_encodingRow_dual8 .d8 ch s hr rfl rfl⟩

/-- Settles O24: the dual row of the 16-bit layout under mode word 3. -/
theorem encD16DeliversTwoReports : Obligations.EncD16DeliversTwoReports :=
  ⟨decode_upd_busOfChannels _, fun s ch hr _ _ => exec_encodingRow_dual16 .d16 ch s hr rfl rfl⟩

/-- Settles O25: the single row of the 8-bit layout, and the two sign bands of the high byte. -/
theorem encS7DeliversOneReport : Obligations.EncS7DeliversOneReport :=
  ⟨decode_upd_busOfChannels _, fun s ch hr _ _ => exec_encodingRow_single8 .s7 ch s hr rfl rfl,
    fun v => ⟨hiByte_le_of_nonneg v, le_hiByte_of_neg v⟩⟩

/-- Settles O26: the single row of the 16-bit layout, the bound of the high byte, and the reading back. -/
theorem encS15DeliversOneReport : Obligations.EncS15DeliversOneReport :=
  ⟨decode_upd_busOfChannels _, fun s ch hr _ _ => exec_encodingRow_single16 .s15 ch s hr rfl rfl,
    fun v => ⟨hiByte_le_of_nonneg v, hiByte_append_loByte v⟩⟩

/-- Settles O27: the dual row of the 8-bit layout, and the two sign bands of the high byte. -/
theorem encD7DeliversTwoReports : Obligations.EncD7DeliversTwoReports :=
  ⟨decode_upd_busOfChannels _, fun s ch hr _ _ => exec_encodingRow_dual8 .d7 ch s hr rfl rfl,
    fun v => ⟨hiByte_le_of_nonneg v, le_hiByte_of_neg v⟩⟩

/-- Settles O28: the dual row of the 16-bit layout, the bound of the high byte, and the reading back. -/
theorem encD15DeliversTwoReports : Obligations.EncD15DeliversTwoReports :=
  ⟨decode_upd_busOfChannels _, fun s ch hr _ _ => exec_encodingRow_dual16 .d15 ch s hr rfl rfl,
    fun v => ⟨hiByte_le_of_nonneg v, hiByte_append_loByte v⟩⟩

/-- Settles O31: both emissions are the same function of MODE, the vector and CONNECTED, and the first of two UPDATEs
keeps MODE, CONNECTED and the phase. -/
theorem updateIsStateless : Obligations.UpdateIsStateless := by
  constructor
  · intro s1 s2 t1 t2 b r1 r2 hp1 hp2 hr1 hr2 hm hc hst1 hst2
    rw [emitted_update_of_ready s1 t1 b r1 hp1 hr1 hst1, emitted_update_of_ready s2 t2 b r2 hp2 hr2 hst2, hm, hc]
  · intro s t t' b rest hp hst htt' hr
    rw [emitted_update_of_ready s t b _ hp hr hst]
    obtain ⟨rb', hstep⟩ := step_update_of_ready s b _ hp hr
    cases hstep.symm.trans hst
    refine (emitted_update_of_ready _ t' b rest ?_ ?_ htt').symm
    · rfl
    · exact hr

end Sys2Proof.Machine

/-! PROOFS. The environment operations (spec/43_environment_ops.md): CONNECT and DISCONNECT. The shared lemmas come
first: the two rows, and what a connected UPDATE delivers by the report count of its mode. -/

namespace Sys2Proof.Machine

/-! ### The two rows of format ENV -/

/-- CONNECT is one write of CONNECTED, with no look at the phase (R130). -/
theorem exec_connect (s : State) : exec .connect s = .next { s with connected := true } := rfl

/-- DISCONNECT is one write of CONNECTED, with no look at the phase (R131). -/
theorem exec_disconnect (s : State) : exec .disconnect s = .next { s with connected := false } := rfl

/-! ### What a connected UPDATE delivers -/

/-- In every mode the first delivery is gamepad 0's (R114, R123). -/
theorem head_deliverEvents_connected (m : Mode) (ch : ChannelVector) :
    (deliverEvents (encodeContract m ch true)).head? = some (.deliver 0 (contractReport m ch 0)) := by
  rcases reportCount_cases m with hn | hn
  · simp [deliverEvents, encodeContract, hn, gamepadIndices_one]
  · simp [deliverEvents, encodeContract, hn, gamepadIndices_two]

/-- The deliveries are as many as the mode has reports (R123). -/
theorem length_deliverEvents_connected (m : Mode) (ch : ChannelVector) :
    (deliverEvents (encodeContract m ch true)).length = reportCount m := by
  rcases reportCount_cases m with hn | hn
  · simp [deliverEvents, encodeContract, hn, gamepadIndices_one]
  · simp [deliverEvents, encodeContract, hn, gamepadIndices_two]

/-- The write of CONNECTED emits nothing, so an UPDATE and the write after it emit what the UPDATE does (R131). -/
theorem emitted_setConnected_step (s t u : State) (v : BitVec 1) (rest : List Request)
    (h : t.pending = .setConnected v :: rest) (htu : step t = .next u) : emitted s u = emitted s t := by
  cases (step_of_setConnected t v rest h).symm.trans htu
  rfl

/-! ### The obligations -/

/-- Settles O43: the UPDATE after CONNECT runs in phase READY with CONNECTED = 1, and its first event is gamepad 0's
report. -/
theorem connectWritesOnlyConnected : Obligations.ConnectWritesOnlyConnected := by
  refine ⟨exec_connect, fun s hc => ?_, fun _ => rfl, ?_⟩
  · rw [exec_connect, ← hc]
  · intro s t u b rest hr hp hst htu
    cases (step_of_setConnected s 1 _ hp).symm.trans hst
    refine ⟨rfl, contractReport (modeOfWord s.mode) (channelsOfBus b) 0, ?_, length_contractReport _ _ _⟩
    rw [emitted_update_of_ready _ u b rest (by rfl) (by exact hr) htu]
    exact head_deliverEvents_connected (modeOfWord s.mode) (channelsOfBus b)

/-- Settles O44: the UPDATE after DISCONNECT is the capture alone, and DISCONNECT takes back nothing of the UPDATE
before it. -/
theorem disconnectWritesOnlyConnected : Obligations.DisconnectWritesOnlyConnected := by
  refine ⟨exec_disconnect, fun s hc => ?_, fun _ => rfl, ?_, ?_⟩
  · rw [exec_disconnect, ← hc]
  · intro s t u b rest hr hp hst htu
    cases (step_of_setConnected s 0 _ hp).symm.trans hst
    cases (step_update_disconnected _ b rest (by rfl) (by exact hr) (by rfl)).symm.trans htu
    obtain ⟨_, hconf⟩ := hr
    exact ⟨rfl, rfl, rfl, rfl, hconf⟩
  · intro s t u b rest hr hc hp hst htu
    obtain ⟨rb', hstep⟩ := step_update_of_ready s b _ hp hr
    have hpend : t.pending = .setConnected 0 :: rest := by
      cases hstep.symm.trans hst
      rfl
    rw [emitted_setConnected_step s t u 0 rest hpend htu, emitted_update_of_ready s t b _ hp hr hst, hc,
      length_deliverEvents_connected]

end Sys2Proof.Machine

/-! PROOFS. The encoding (spec/30_encoding.md): decoder and encoder undo each other, the row a code selects, and what is
rejected by name. The shared lemmas come first: what each format's decoder rejects, and the primitives under any mode
word. -/

namespace Sys2Proof.Machine

/-! ### What each format rejects -/

/-- A raw mode value of 8 or more names no mode (R65). -/
theorem decodeCfg_undefined (w : Nat) (h : 8 ≤ w) : decodeCfg w = .error (.undefinedMode w) := by
  obtain ⟨k, rfl⟩ := Nat.exists_eq_add_of_le' h
  rfl

/-- A dispatch word has four bits (R63). -/
theorem decodeUpd_tooWide (w : Nat) (ch : ChannelVector) (h : 16 ≤ w) :
    decodeUpd w ch = .error (.wordTooWide .upd w) := by
  obtain ⟨k, rfl⟩ := Nat.exists_eq_add_of_le' h
  unfold decodeUpd
  rw [if_neg (by omega)]
  rfl

/-- CONNECTED has one bit (R60). -/
theorem decodeEnv_tooWide (w : Nat) (h : 2 ≤ w) : decodeEnv w = .error (.wordTooWide .env w) := by
  obtain ⟨k, rfl⟩ := Nat.exists_eq_add_of_le' h
  rfl

/-- A reset request has no bits (R60). -/
theorem decodeRst_tooWide (w : Nat) (h : 1 ≤ w) : decodeRst w = .error (.wordTooWide .rst w) := by
  obtain ⟨k, rfl⟩ := Nat.exists_eq_add_of_le' h
  rfl

/-- A dispatch word below 8 is a DROP (R63). -/
theorem decodeUpd_of_lt (w : Nat) (ch : ChannelVector) (h : w < 8) :
    decodeUpd w ch = .ok (.drop (BitVec.ofNat 3 w) ch) := by
  unfold decodeUpd
  rw [if_pos h]

/-! ### The primitives under any mode word -/

/-- The gamepad index and the axis index read back from the bus (log 17). -/
theorem decode_mux (w : Nat) (hw : w < 8) (g : Fin 2) (a : Fin 6) :
    decode ⟨.prim .mux, w, BitVec.ofNat 192 (g.val + 2 * a.val)⟩ = .ok (.mux g a) := by
  have hbus : ∀ (g : Fin 2) (a : Fin 6), busGamepad (BitVec.ofNat 192 (g.val + 2 * a.val)) = g ∧
      ((BitVec.ofNat 192 (g.val + 2 * a.val)).extractLsb' 1 3).toNat = a.val := by decide
  obtain ⟨hg, ha⟩ := hbus g a
  simp only [decode, decodePrim, if_neg (Nat.not_le.2 hw), hg, ha, a.isLt, dif_pos]

/-- CVT8 is read when `MODE.W = 0` and rejected otherwise (R64). -/
theorem decode_cvt8 (w : Nat) (hw : w < 8) (b : BitVec 192) :
    decode ⟨.prim .cvt8, w, b⟩ =
      if w % 2 = 0 then .ok (.cvt8 (b.extractLsb' 0 16)) else .error (.notSelected .cvt8 w) := by
  simp only [decode, decodePrim, if_neg (Nat.not_le.2 hw)]

/-- CVT16 is read when `MODE.W = 1` and rejected otherwise (R64). -/
theorem decode_cvt16 (w : Nat) (hw : w < 8) (b : BitVec 192) :
    decode ⟨.prim .cvt16, w, b⟩ =
      if w % 2 = 1 then .ok (.cvt16 (b.extractLsb' 0 16)) else .error (.notSelected .cvt16 w) := by
  simp only [decode, decodePrim, if_neg (Nat.not_le.2 hw)]

/-- The gamepad index is bit 0 of the bus (log 17). -/
theorem busGamepad_ofNat (g : Fin 2) : busGamepad (BitVec.ofNat 192 g.val) = g := by
  revert g
  decide

/-- No mode word deselects BUILD (R64). -/
theorem decode_build (w : Nat) (hw : w < 8) (g : Fin 2) :
    decode ⟨.prim .build, w, BitVec.ofNat 192 g.val⟩ = .ok (.build g) := by
  simp only [decode, decodePrim, if_neg (Nat.not_le.2 hw), busGamepad_ofNat]

/-- No mode word deselects DELIVER (R64). -/
theorem decode_deliver (w : Nat) (hw : w < 8) (g : Fin 2) :
    decode ⟨.prim .deliver, w, BitVec.ofNat 192 g.val⟩ = .ok (.deliver g) := by
  simp only [decode, decodePrim, if_neg (Nat.not_le.2 hw), busGamepad_ofNat]

/-- No mode word deselects BTN, which has no operand (R64). -/
theorem decode_btn (w : Nat) (hw : w < 8) (b : BitVec 192) : decode ⟨.prim .btn, w, b⟩ = .ok .btn := by
  simp only [decode, decodePrim, if_neg (Nat.not_le.2 hw)]

/-! ### Rows -/

/-- Among the rows of the issuable formats only its own selects the code of an operation. -/
theorem filter_selects_encode (i : Instr) (h : ∀ p, (encode i).fmt ≠ .prim p) :
    issuableRows.filter (fun r => r.selects (encode i)) = [i.row] := by
  cases i with
  | drop mmm ch =>
    have hdrop : ∀ m : BitVec 3, issuableRows.filter (fun r => r.selects ⟨.upd, m.toNat, 0⟩) =
        [⟨"DROP", .upd, 8, 0⟩] := by decide
    exact hdrop mmm
  | encS8 | encS16 | encD8 | encD16 | encS7 | encS15 | encD7 | encD15 =>
    simp [encode, issuableRows, Instr.row, Row.selects]
  | mux | cvt8 | cvt16 | btn | build | deliver => exact absurd rfl (h _)
  | _ => decide

/-- A primitive's row looks at MODE.W only where its decoder does (R64). -/
theorem decodePrim_selects (p : Prim) (w : Nat) (b : BitVec 192) (i : Instr) (h : decodePrim p w b = .ok i) :
    i.row.selects ⟨.prim p, w, b⟩ = true := by
  unfold decodePrim at h
  split at h
  · cases h
  · cases p with
    | mux =>
      dsimp only at h
      split at h <;> cases h
      simp [Instr.row, Row.selects]
    | cvt8 | cvt16 =>
      dsimp only at h
      split at h <;> cases h
      simpa [Instr.row, Row.selects, Nat.and_one_is_mod]
    | btn | build | deliver =>
      cases h
      simp [Instr.row, Row.selects]

/-! ### The obligations -/

/-- Settles O6: the words of the issuable rows decode to them, the channels and the primitives' operands read back from
the bus. -/
theorem decodeEncodeRoundTrip : Obligations.DecodeEncodeRoundTrip := by
  intro i
  cases i with
  | drop mmm ch => exact (decode_upd_busOfChannels _ ch).trans (decodeUpd_drop mmm ch)
  | encS8 ch | encS16 ch | encD8 ch | encD16 ch | encS7 ch | encS15 ch | encD7 ch | encD15 ch =>
    exact decode_upd_busOfChannels _ ch
  | mux g a => exact decode_mux 0 (by decide) g a
  | cvt8 v => simpa [encode] using decode_cvt8 0 (by decide) (v.setWidth 192)
  | cvt16 v => simpa [encode] using decode_cvt16 1 (by decide) (v.setWidth 192)
  | build g => exact decode_build 0 (by decide) g
  | deliver g => exact decode_deliver 0 (by decide) g
  | _ => rfl

/-- Settles O7: a well-formed word is one of its format's finitely many, and the bus is 0 or laid out again from its
channels. -/
theorem encodeDecodeRoundTrip : Obligations.EncodeDecodeRoundTrip := by
  rintro ⟨fmt, w, b⟩ hwf hprim
  simp only [Code.wellFormed, Code.wordFits, Bool.and_eq_true, Nat.blt_eq] at hwf
  obtain ⟨⟨hw, -⟩, hb⟩ := hwf
  cases fmt with
  | prim p => exact absurd rfl (hprim p)
  | upd =>
    change w < 16 at hw
    by_cases h8 : w < 8
    · refine ⟨_, decodeUpd_of_lt w _ h8, ?_⟩
      simp [encode, Nat.mod_eq_of_lt h8]
    · interval_cases w <;> exact ⟨_, rfl, by simp [encode]⟩
  | cfg =>
    change w < 8 at hw
    obtain rfl : b = 0 := by simpa [Code.operandFits] using hb
    interval_cases w <;> exact ⟨_, rfl, rfl⟩
  | env =>
    change w < 2 at hw
    obtain rfl : b = 0 := by simpa [Code.operandFits] using hb
    interval_cases w <;> exact ⟨_, rfl, rfl⟩
  | rst =>
    change w < 1 at hw
    obtain rfl : b = 0 := by simpa [Code.operandFits] using hb
    interval_cases w
    exact ⟨_, rfl, rfl⟩

/-- Settles O8: the code is that of the operation read (O7), and only that operation's row selects it. -/
theorem exactlyOneRowSelects : Obligations.ExactlyOneRowSelects := by
  intro c hwf hprim
  obtain ⟨i, hi, rfl⟩ := encodeDecodeRoundTrip c hwf hprim
  exact ⟨i, hi, filter_selects_encode i hprim⟩

/-- Settles O9: beyond its format's words the decoder accepts nothing, and each of those words is its row's under the
mask. -/
theorem decodedRowSelectsItsCode : Obligations.DecodedRowSelectsItsCode := by
  rintro ⟨fmt, w, b⟩ i h
  cases fmt with
  | prim p => exact decodePrim_selects p w b i h
  | cfg =>
    have hw : w < 8 := Nat.lt_of_not_le fun hw => by simp [decode, decodeCfg_undefined w hw] at h
    interval_cases w <;> cases h <;> simp [Instr.row, Row.selects]
  | upd =>
    have hw : w < 16 := Nat.lt_of_not_le fun hw => by simp [decode, decodeUpd_tooWide w _ hw] at h
    interval_cases w <;> cases h <;> simp [Instr.row, Row.selects]
  | env =>
    have hw : w < 2 := Nat.lt_of_not_le fun hw => by simp [decode, decodeEnv_tooWide w hw] at h
    interval_cases w <;> cases h <;> simp [Instr.row, Row.selects]
  | rst =>
    have hw : w < 1 := Nat.lt_of_not_le fun hw => by simp [decode, decodeRst_tooWide w hw] at h
    interval_cases w
    cases h
    simp [Instr.row, Row.selects]

/-- Settles O10: what each format rejects, and the converters under the other width. -/
theorem malformedCodesRejectedByName : Obligations.MalformedCodesRejectedByName := by
  refine ⟨fun w _ h => decodeCfg_undefined w h, fun w _ h => decodeUpd_tooWide w _ h,
    fun w _ h => decodeEnv_tooWide w h, fun w b hw h => ?_, fun w b hw h => ?_⟩
  · rw [decode_cvt8 w hw, if_neg (by omega)]
  · rw [decode_cvt16 w hw, if_neg (by omega)]

/-- Settles O11: the decoder runs on each of the four words. -/
theorem sampleWordsDecode : Obligations.SampleWordsDecode := by
  refine ⟨rfl, ?_, ?_, rfl⟩ <;> decide

end Sys2Proof.Machine

/-! PROOFS. The Mode Table and the descriptor (spec/40_mode_table.md, spec/30_encoding.md sections 2 and 5). -/

namespace Sys2Proof.Machine

/-! ### The columns of the Mode Table, by the fields of the mode word -/

/-- Bit 0 gives the axis width (R62). -/
theorem axisWidth_modeOfWord (w : BitVec 3) : axisWidth (modeOfWord w) = if fieldW w then 16 else 8 := by
  revert w
  decide

/-- Bit 0 gives the report length (R62, R69). -/
theorem reportLength_modeOfWord (w : BitVec 3) : reportLength (modeOfWord w) = if fieldW w then 13 else 7 := by
  revert w
  decide

/-- Bit 1 gives the report count (R62, R95). -/
theorem reportCount_modeOfWord (w : BitVec 3) : reportCount (modeOfWord w) = if fieldD w then 2 else 1 := by
  revert w
  decide

/-- Bits 0 and 2 give the declared range (R62). -/
theorem rangeFor_modeOfWord (w : BitVec 3) :
    (rangeFor (modeOfWord w)).2 = (if fieldW w then 32767 else 127) ∧
    (rangeFor (modeOfWord w)).1 = if fieldU w then 0 else - (rangeFor (modeOfWord w)).2 := by
  revert w
  decide

/-- The word of the mode a word names is that word (R61). -/
@[simp] theorem wordOfMode_modeOfWord (w : BitVec 3) : wordOfMode (modeOfWord w) = w := by
  revert w
  decide

/-- The mode named by a mode's word is that mode (R61). -/
@[simp] theorem modeOfWord_wordOfMode (m : Mode) : modeOfWord (wordOfMode m) = m := by
  cases m <;> rfl

/-! ### The descriptor content -/

/-- The collections of a content, one per report (R66). -/
theorem map_reportId_descriptorContent (m : Mode) :
    (descriptorContent m).map (·.reportId) = (List.range (reportCount m)).map (· + 1) := by
  cases m <;> rfl

/-- The axis declaration of every collection is the mode's (R66). -/
theorem axes_of_mem_descriptorContent (m : Mode) (c : GamepadCollection) (h : c ∈ descriptorContent m) :
    c.axes = ⟨(rangeFor m).1, (rangeFor m).2, axisWidth m, 6⟩ := by
  obtain ⟨j, -, rfl⟩ := List.mem_map.1 h
  rfl

/-- Range, width and number of collections tell the eight contents apart (R80, R93). -/
theorem descriptorContent_injective (m m' : Mode) (h : descriptorContent m = descriptorContent m') : m = m' := by
  revert h
  cases m <;> cases m' <;> decide

/-! ### The obligations -/

/-- Settles O4: what a descriptor spells is the mode's content, whose collections declare the table's entries, and a
content belongs to one mode. -/
theorem descriptorAgreesWithModeTable : Obligations.DescriptorAgreesWithModeTable := by
  intro desc hlaw
  refine ⟨fun m => ⟨descriptorContent m, hlaw m, ?_, map_reportId_descriptorContent m, axes_of_mem_descriptorContent m⟩, ?_⟩
  · simpa using congrArg List.length (map_reportId_descriptorContent m)
  · intro m m' hdesc
    have hread := hlaw m
    rw [hdesc, hlaw m'] at hread
    exact (descriptorContent_injective m' m (Option.some.inj hread)).symm

/-- Settles O1: the table, read entry by entry. -/
theorem modeTableEntries : Obligations.ModeTableEntries := by
  simp only [Obligations.ModeTableEntries]
  decide

/-- Settles O2: each column by one field of the word, and the two directions between words and modes. -/
theorem modeWordFieldsGiveAttributes : Obligations.ModeWordFieldsGiveAttributes :=
  ⟨fun w => ⟨axisWidth_modeOfWord w, reportLength_modeOfWord w, reportCount_modeOfWord w, (rangeFor_modeOfWord w).1,
    (rangeFor_modeOfWord w).2, rfl, wordOfMode_modeOfWord w⟩, modeOfWord_wordOfMode⟩

/-- Settles O3: both counts on each of the eight words. -/
theorem reportCountIsTableColumnNotFormula : Obligations.ReportCountIsTableColumnNotFormula := by
  unfold Obligations.ReportCountIsTableColumnNotFormula
  decide

/-- Settles O5: the collections differ in Report ID only, and eight buttons with six axes fill the report. -/
theorem descriptorContentShape : Obligations.DescriptorContentShape := by
  intro m c hc
  obtain ⟨j, -, rfl⟩ := List.mem_map.1 hc
  refine ⟨rfl, rfl, rfl, rfl, ?_⟩
  cases m <;> rfl

end Sys2Proof.Machine

/-! PROOFS. How a request reaches its row, and that every step completes (spec/00_scope.md section 4, spec/30_encoding.md
sections 2 and 3, spec/70_reset_and_hazards.md section 4). -/

namespace Sys2Proof.Machine

/-! ### From a request to its row -/

/-- The oldest request runs as the operation its code decodes to, on the state without it (R9). -/
theorem step_of_decode (s : State) (r : Request) (rest : List Request) (i : Instr) (h : s.pending = r :: rest)
    (hdec : decode (r.code s) = .ok i) : step s = exec i { s with pending := rest } := by
  simp only [step, fetch_cons s r rest h, hdec]

/-- The mode word of a CONFIGURE selects that mode's row (R61). -/
theorem decodeCfg_wordOfMode (m : Mode) : decodeCfg (wordOfMode m).toNat = .ok (configureRow m) := by
  cases m <;> rfl

/-- The dispatch word of a connected UPDATE selects the encoding row of its mode (R63). -/
theorem decodeUpd_connected (m : Mode) (ch : ChannelVector) :
    decodeUpd (8 + (wordOfMode m).toNat) ch = .ok (encodingRow ch m) := by
  cases m <;> rfl

/-- A connected UPDATE in phase READY runs as the encoding row of MODE (R63). -/
theorem step_update_connected (s : State) (b : BitVec 192) (rest : List Request) (h : s.pending = .update b :: rest)
    (hr : s.ready) (hc : s.connected = true) :
    step s = exec (encodingRow (channelsOfBus b) (modeOfWord s.mode)) { s with pending := rest } := by
  have ⟨hfault, hconf⟩ := hr
  apply step_of_decode s _ rest _ h
  simp only [Request.code, decode, dispatchWord_ready s hfault hconf, hc, if_true]
  rw [← decodeUpd_connected, wordOfMode_modeOfWord]

/-! ### A bare table word -/

/-- A bare table word is never given the format of a primitive (log 2). -/
theorem tableFormat_ne_prim (nbits w : Nat) (p : Prim) : tableFormat nbits w ≠ .prim p := by
  unfold tableFormat
  split
  case h_5 => split <;> exact Format.noConfusion
  all_goals exact Format.noConfusion

/-- The dispatch word of four bits is CONNECTED at bit 3 and MODE below it (R63). -/
theorem dispatchWord_split (w : Nat) (h : w < 16) : (if w.testBit 3 then 8 else 0) + (BitVec.ofNat 3 w).toNat = w := by
  interval_cases w <;> rfl

/-- The state to which a word is presented differs from the given one in nothing pending. -/
@[simp] theorem readyFor_pending (nbits w : Nat) (s : State) : (readyFor nbits w s).pending = s.pending := by
  unfold readyFor
  split <;> rfl

/-- The request that presents a word the decoder accepts is coded as that word (log 2). -/
theorem code_tableRequest (nbits w : Nat) (s : State) (i : Instr) (h : decode (tableCode nbits w) = .ok i) :
    (tableRequest nbits w).code (s.withFetchWord nbits w) = tableCode nbits w := by
  unfold tableCode at h ⊢
  simp only [State.withFetchWord, tableRequest, readyFor]
  cases hfmt : tableFormat nbits w with
  | prim p => exact absurd hfmt (tableFormat_ne_prim nbits w p)
  | cfg => rfl
  | upd =>
    have hw : w < 16 := Nat.lt_of_not_le fun hw => by simp [hfmt, decode, decodeUpd_tooWide w _ hw] at h
    simp only [Request.code]
    rw [dispatchWord_ready _ rfl rfl, dispatchWord_split w hw]
  | env =>
    have hw : w < 2 := Nat.lt_of_not_le fun hw => by simp [hfmt, decode, decodeEnv_tooWide w hw] at h
    simp [Request.code, Nat.mod_eq_of_lt hw]
  | rst =>
    have hw : w < 1 := Nat.lt_of_not_le fun hw => by simp [hfmt, decode, decodeRst_tooWide w hw] at h
    obtain rfl : w = 0 := by omega
    rfl

/-! ### Completion -/

/-- Every operation has a next state (R176). -/
theorem exec_completes (i : Instr) (s : State) : ∃ t, exec i s = .next t := by
  cases i <;> exact ⟨_, rfl⟩

/-- Every step has a next state (R176). -/
theorem step_completes (s : State) : ∃ t, step s = .next t := by
  match hp : s.pending with
  | [] => exact ⟨s, by simp only [step, fetch_nil s hp]⟩
  | .configure raw :: rest => exact ⟨_, step_of_configure s raw rest hp⟩
  | .update b :: rest =>
    rcases step_of_update s b rest hp with ⟨_, hstep⟩ | ⟨_, _, hstep⟩ | ⟨_, _, rb', hstep⟩ <;> exact ⟨_, hstep⟩
  | .reset :: rest => exact ⟨_, step_of_reset s rest hp⟩
  | .setConnected v :: rest => exact ⟨_, step_of_setConnected s v rest hp⟩

/-- A step takes the oldest request and no other. -/
theorem step_pending (s t : State) (h : step s = .next t) : t.pending = s.pending.tail := by
  rcases step_cases s t h with ⟨hp, rfl⟩ | ⟨raw, rest, hp, hconf⟩ | ⟨b, rest, hp, hupd⟩ | ⟨rest, hp, rfl⟩ |
    ⟨v, rest, hp, rfl⟩
  · simp [hp]
  · rcases hconf with ⟨_, rfl⟩ | ⟨_, _, rfl⟩ | ⟨_, _, _, rfl⟩ | ⟨_, _, _, rfl⟩ <;> simp [hp]
  · rcases hupd with ⟨_, rfl⟩ | ⟨_, _, rfl⟩ | ⟨_, _, rb', rfl⟩ <;> simp [hp]
  · simp [hp]
  · simp [hp]

/-! ### The obligations -/

/-- Settles O13: each request's code decodes to the row named. -/
theorem eachRequestRunsItsRow : Obligations.EachRequestRunsItsRow := by
  intro s rest
  refine ⟨fun m hp => ?_, fun b hp hr hc => ?_, fun b hp hr hc => step_update_connected s b rest hp hr hc,
    fun hp => ?_, fun hp => ?_, fun hp => ?_⟩
  · exact step_of_decode s _ rest _ hp (decodeCfg_wordOfMode m)
  · have ⟨hfault, hconf⟩ := hr
    apply step_of_decode s _ rest _ hp
    simp [Request.code, decode, dispatchWord_ready s hfault hconf, hc]
  · exact step_of_decode s _ rest _ hp rfl
  · exact step_of_decode s _ rest _ hp rfl
  · exact step_of_decode s _ rest _ hp rfl

/-- Settles O14: the presented request is coded as the word, so the step decodes the word. -/
theorem fetchWordRunsNext : Obligations.FetchWordRunsNext := by
  intro s nbits w i h
  have hdec : decode (tableCode nbits w) = .ok i := by
    unfold decodeTableWord at h
    split at h
    case _ j hj => rw [hj, Option.some.inj h]
    case _ => cases h
  have hcode := code_tableRequest nbits w s i hdec
  rw [step_of_decode (s.withFetchWord nbits w) (tableRequest nbits w) s.pending i rfl (hcode.symm ▸ hdec)]
  congr 1
  rw [← readyFor_pending nbits w s]
  rfl

/-- Settles O15: no row refuses or stops, and no step does. -/
theorem everyStepCompletes : Obligations.EveryStepCompletes := by
  refine ⟨exec_completes, fun s => ?_⟩
  obtain ⟨t, hstep⟩ := step_completes s
  exact ⟨t, hstep, step_pending s t hstep⟩

/-- Settles O12: the oldest request runs as it decodes; an idle block holds its state. -/
theorem stepRunsDecodedOperation : Obligations.StepRunsDecodedOperation := by
  refine ⟨step_of_decode, fun s hp => ?_⟩
  simp only [step, fetch_nil s hp]

end Sys2Proof.Machine

/-! PROOFS. CONFIGURE and the checks of UPDATE (spec/40_mode_table.md, spec/42_report_encoder.md section 1,
spec/60_exceptions.md section 1). -/

namespace Sys2Proof.Machine

/-! ### The CFG rows -/

/-- The row of a mode is CONFIGURE of its word (R85 to R92). -/
theorem exec_configureRow (m : Mode) (s : State) :
    exec (configureRow m) s = .next (configure (wordOfMode m).toNat s) := by
  cases m <;> rfl

/-- While FAULTED a CONFIGURE does nothing (R147). -/
theorem configure_of_faulted (raw : Nat) (s : State) (h : s.fault ≠ 0#2) : configure raw s = s := by
  unfold configure
  rw [if_pos h]

/-- In phase READY any operand latches Reconfigure (R143). -/
theorem configure_of_ready (raw : Nat) (s : State) (h : s.ready) : configure raw s = { s with fault := 2 } := by
  obtain ⟨hf, hc⟩ := h
  simp [configure, hf, hc, raiseFault_of_none, Cause.code]

/-- In phase UNCONFIGURED a value that names no mode latches InvalidMode (R142). -/
theorem configure_undefined (raw : Nat) (s : State) (h : s.unconfigured) (hraw : 8 ≤ raw) :
    configure raw s = { s with fault := 1 } := by
  obtain ⟨hf, hc⟩ := h
  simp [configure, hf, hc, hraw, raiseFault_of_none, Cause.code]

/-- In phase UNCONFIGURED a mode word becomes active and its descriptor is published (R84). -/
theorem configure_defined (w : BitVec 3) (s : State) (h : s.unconfigured) :
    configure w.toNat s =
      { s with mode := w, configured := true
               events := s.events ++ [.publish w (descriptorFor (modeOfWord w))] } := by
  obtain ⟨hf, hc⟩ := h
  simp [configure, hf, hc, Nat.not_le.2 w.isLt, emit]

/-- An observation that FAULT does not touch, nor the activation of a mode, is as before after CONFIGURE. -/
theorem configure_frame {α : Type} (f : State → α) (raw : Nat) (s : State)
    (hfault : ∀ c, f { s with fault := c } = f s)
    (hactive : ∀ w es, f { s with mode := w, configured := true, events := es } = f s) : f (configure raw s) = f s := by
  rcases configure_cases raw s with ⟨_, heq⟩ | ⟨_, _, heq⟩ | ⟨_, _, _, heq⟩ | ⟨_, _, _, heq⟩ <;> rw [heq]
  · exact hfault 2
  · exact hfault 1
  · exact hactive _ _

@[simp] theorem configure_ch (raw : Nat) (s : State) : (configure raw s).ch = s.ch :=
  configure_frame State.ch raw s (fun _ => rfl) (fun _ _ => rfl)
@[simp] theorem configure_rb (raw : Nat) (s : State) : (configure raw s).rb = s.rb :=
  configure_frame State.rb raw s (fun _ => rfl) (fun _ _ => rfl)
@[simp] theorem configure_connected (raw : Nat) (s : State) : (configure raw s).connected = s.connected :=
  configure_frame State.connected raw s (fun _ => rfl) (fun _ _ => rfl)
@[simp] theorem configure_pending (raw : Nat) (s : State) : (configure raw s).pending = s.pending :=
  configure_frame State.pending raw s (fun _ => rfl) (fun _ _ => rfl)

/-! ### The UPD rows -/

/-- An observation that FAULT does not touch, nor the capture with what follows it, is as before after UPDATE. -/
theorem updateThen_frame {α : Type} (f : State → α) (after : State → State) (ch : ChannelVector) (s : State)
    (hfault : ∀ c, f { s with fault := c } = f s) (hafter : f (after (capture ch s)) = f s) :
    f (updateThen after ch s) = f s := by
  rcases updateThen_cases after ch s with ⟨_, heq⟩ | ⟨_, _, heq⟩ | ⟨_, _, heq⟩ <;> rw [heq]
  · exact hfault 3
  · exact hafter

/-- An observation that FAULT and CH do not touch is as before after DROP. -/
theorem drop_frame {α : Type} (f : State → α) (ch : ChannelVector) (s : State)
    (hfault : ∀ c, f { s with fault := c } = f s) (hch : f { s with ch := ch } = f s) :
    f (updateThen (fun s' => s') ch s) = f s :=
  updateThen_frame f _ ch s hfault hch

/-- An observation that RB and the events do not touch is as before after the reports (R113, R114). -/
theorem sendReports_frame {α : Type} (f : State → α) (m : Mode) (s : State)
    (hreport : ∀ rb es, f { s with rb := rb, events := es } = f s) : f (sendReports m s) = f s := by
  obtain ⟨rb', heq⟩ := sendReports_spec m s
  rw [heq]
  exact hreport rb' _

/-- An observation that FAULT, CH, RB and the events do not touch is as before after an encoding row. -/
theorem encoding_frame {α : Type} (f : State → α) (m : Mode) (ch : ChannelVector) (s : State)
    (hfault : ∀ c, f { s with fault := c } = f s)
    (hreport : ∀ rb es, f { s with ch := ch, rb := rb, events := es } = f s) :
    f (updateThen (sendReports m) ch s) = f s := by
  have hcapture : f (capture ch s) = f s := hreport s.rb s.events
  refine updateThen_frame f _ ch s hfault (Eq.trans ?_ hcapture)
  exact sendReports_frame f m (capture ch s) fun rb es => (hreport rb es).trans hcapture.symm

/-- In phase UNCONFIGURED an UPDATE latches NotConfigured (R144). -/
theorem updateThen_of_unconfigured (after : State → State) (ch : ChannelVector) (s : State) (h : s.unconfigured) :
    updateThen after ch s = { s with fault := 3 } := by
  obtain ⟨hf, hc⟩ := h
  simp [updateThen, hf, hc, raiseFault_of_none, Cause.code]

/-- DROP is the frame of UPDATE with nothing after the capture (R112). -/
theorem exec_drop (mmm : BitVec 3) (ch : ChannelVector) (s : State) :
    exec (.drop mmm ch) s = .next (updateThen (fun s' => s') ch s) := rfl

/-- In phase UNCONFIGURED the step on an UPDATE latches NotConfigured (R144). -/
theorem step_update_of_unconfigured (s : State) (b : BitVec 192) (rest : List Request)
    (h : s.pending = .update b :: rest) (hu : s.unconfigured) : step s = .next { s with pending := rest, fault := 3 } := by
  obtain ⟨hf, hc⟩ := hu
  rcases step_of_update s b rest h with ⟨hf', _⟩ | ⟨_, _, hstep⟩ | ⟨_, hc', _⟩
  · exact absurd hf hf'
  · exact hstep
  · exact absurd (hc.symm.trans hc') (by decide)

/-- While FAULTED the step on an UPDATE does nothing (R147). -/
theorem step_update_of_faulted (s : State) (b : BitVec 192) (rest : List Request) (h : s.pending = .update b :: rest)
    (hf : s.fault ≠ 0#2) : step s = .next { s with pending := rest } := by
  rcases step_of_update s b rest h with ⟨_, hstep⟩ | ⟨hf', _⟩ | ⟨hf', _⟩
  · exact hstep
  · exact absurd hf' hf
  · exact absurd hf' hf

/-- A state that is not READY is FAULTED or UNCONFIGURED (R28). -/
theorem faulted_or_unconfigured (s : State) (h : ¬ s.ready) : s.fault ≠ 0#2 ∨ s.unconfigured := by
  by_cases hf : s.fault = 0#2
  · exact .inr ⟨hf, Bool.eq_false_iff.2 fun hc => h ⟨hf, hc⟩⟩
  · exact .inl hf

/-! ### The pseudocode of UPDATE -/

/-- While FAULTED the pseudocode returns at its first check (R110). -/
theorem updateAsWritten_of_faulted (ch : ChannelVector) (s : State) (h : s.fault ≠ 0#2) : updateAsWritten ch s = s := by
  unfold updateAsWritten
  rw [if_pos h]

/-- In phase UNCONFIGURED the pseudocode latches NotConfigured at its second check (R110). -/
theorem updateAsWritten_of_unconfigured (ch : ChannelVector) (s : State) (h : s.unconfigured) :
    updateAsWritten ch s = { s with fault := 3 } := by
  obtain ⟨hf, hc⟩ := h
  simp [updateAsWritten, hf, hc, raiseFault_of_none, Cause.code]

/-- In phase READY with CONNECTED = 0 the pseudocode captures and returns (R110). -/
theorem updateAsWritten_disconnected (ch : ChannelVector) (s : State) (h : s.ready) (hconn : s.connected = false) :
    updateAsWritten ch s = capture ch s := by
  obtain ⟨hf, hc⟩ := h
  simp [updateAsWritten, hf, hc, hconn]

/-- In phase READY with CONNECTED = 1 the pseudocode sends the reports of MODE after the capture (R110). -/
theorem updateAsWritten_connected (ch : ChannelVector) (s : State) (h : s.ready) (hconn : s.connected = true) :
    updateAsWritten ch s = sendReports (modeOfWord s.mode) (capture ch s) := by
  obtain ⟨hf, hc⟩ := h
  simp [updateAsWritten, hf, hc, hconn, sendReports]

/-! ### The obligations -/

/-- Settles O29: the two agree in each phase, and in phase READY for each value of CONNECTED. -/
theorem updateStepIsPseudocode : Obligations.UpdateStepIsPseudocode := by
  intro s b rest hp
  by_cases hr : s.ready
  · cases hconn : s.connected with
    | false =>
      rw [updateAsWritten_disconnected _ _ (by exact hr) (by rfl), step_update_disconnected s b rest hp hr hconn, hconn]
      rfl
    | true =>
      rw [updateAsWritten_connected _ _ (by exact hr) (by rfl), step_update_connected s b rest hp hr hconn,
        exec_encodingRow, updateThen_of_ready _ _ _ (by exact hr), hconn]
  · rcases faulted_or_unconfigured s hr with hf | hu
    · rw [updateAsWritten_of_faulted _ _ (by exact hf), step_update_of_faulted s b rest hp hf]
    · rw [updateAsWritten_of_unconfigured _ _ (by exact hu), step_update_of_unconfigured s b rest hp hu]

/-- Settles O16: the row is CONFIGURE of the mode's word. -/
theorem configureActivatesItsMode : Obligations.ConfigureActivatesItsMode := by
  intro s hu m
  rw [exec_configureRow, configure_defined _ s hu, modeOfWord_wordOfMode]

/-- Settles O17: CONFIGURE checks for an active mode before it looks at its operand. -/
theorem secondConfigureLatchesReconfigure : Obligations.SecondConfigureLatchesReconfigure := by
  refine ⟨fun s m hr => ?_, fun s raw rest hr hp => ?_⟩
  · rw [exec_configureRow, configure_of_ready _ s hr]
  · rw [step_of_configure s raw rest hp, configure_of_ready raw _ (by exact hr)]

/-- Settles O18: the value reaches CONFIGURE although the decoder rejects it. -/
theorem undefinedModeLatchesInvalidMode : Obligations.UndefinedModeLatchesInvalidMode := by
  intro s raw rest hu hraw hp
  rw [step_of_configure s raw rest hp, configure_undefined raw _ (by exact hu) hraw]

/-- Settles O19: every UPD row carries the check, whatever follows it. -/
theorem updateBeforeConfigureLatchesNotConfigured : Obligations.UpdateBeforeConfigureLatchesNotConfigured := by
  refine ⟨fun s ch mmm m hu => ⟨?_, ?_⟩, fun s b rest hu hp => step_update_of_unconfigured s b rest hp hu⟩
  · rw [exec_drop, updateThen_of_unconfigured _ ch s hu]
  · rw [exec_encodingRow, updateThen_of_unconfigured _ ch s hu]

end Sys2Proof.Machine

/-! PROOFS. The coherence of trace, active mode and latch (spec/20_memory.md section 6): every step keeps it. -/

namespace Sys2Proof.Machine

/-! ### Traces -/

/-- A Publish may follow wherever no report is owed, and opens its mode (R94). -/
theorem TraceState.after_publish (a : TraceState) (w : BitVec 3) (h : ∀ m, a ≠ .owed m) :
    a.after [.publish w (Config.desc (modeOfWord w))] (.open (modeOfWord w)) :=
  ⟨_, ⟨rfl, h, rfl⟩, rfl⟩

/-- A report of R123 has the form of its mode (R69, R103). -/
theorem isReportOf_contractReport (m : Mode) (ch : ChannelVector) (g : Fin 2) : isReportOf m (contractReport m ch g) :=
  ⟨length_contractReport m ch g, head_contractReport m ch g⟩

/-- The deliveries of one UPDATE under the published mode owe nothing in the end: none, report 0 of a single mode, or
both reports of a dual one (R111, R114). -/
theorem TraceState.after_deliverEvents (m : Mode) (ch : ChannelVector) (c : Bool) :
    (TraceState.open m).after (deliverEvents (encodeContract m ch c)) (.open m) := by
  have hreport := isReportOf_contractReport m ch
  cases c with
  | false => rfl
  | true =>
    rcases reportCount_cases m with hn | hn
    · simp only [encodeContract, hn, gamepadIndices_one]
      exact ⟨_, ⟨rfl, hreport 0, by simp [hn]⟩, rfl⟩
    · simp only [encodeContract, hn, gamepadIndices_two]
      exact ⟨.owed m, ⟨rfl, hreport 0, by simp [hn]⟩, _, ⟨rfl, hreport 1, rfl⟩, rfl⟩

/-! ### The invariant -/

/-- Without a latched fault the invariant is that of the trace. -/
theorem State.coherent_of_no_fault (s : State) (hf : s.fault = 0#2) (b : TraceState)
    (htrace : TraceState.silent.after s.events b) (howed : ∀ m, b ≠ .owed m)
    (hactive : s.configured = true → b = .open (modeOfWord s.mode)) : s.coherent := by
  refine ⟨⟨b, htrace, howed, hactive⟩, ?_, ?_⟩ <;> simp [hf, Cause.code]

/-- Latching a cause keeps the invariant when the cause is the one for the value of CONFIGURED. -/
theorem State.coherent_latch (s : State) (c : Cause) (h : s.coherent) (hcause : c = .reconfigure ↔ s.configured = true) :
    State.coherent { s with fault := c.code } := by
  obtain ⟨htrace, -, -⟩ := h
  refine ⟨htrace, ?_, ?_⟩ <;> cases c <;> simp_all [Cause.code]

/-! ### The obligations -/

/-- Settles O54: by everything a step can do. A step emits nothing, a Publish that opens the mode it makes active, or the
deliveries of the active mode; it latches the cause that CONFIGURED calls for, or clears both. -/
theorem everyStepKeepsCoherence : Obligations.EveryStepKeepsCoherence := by
  intro s t hs hstep
  have ⟨⟨b, htrace, howed, hactive⟩, _, _⟩ := hs
  rcases step_cases s t hstep with ⟨_, rfl⟩ | ⟨raw, rest, _, hconf⟩ | ⟨b', rest, _, hupd⟩ | ⟨rest, _, rfl⟩ |
    ⟨v, rest, _, rfl⟩
  · exact hs
  · rcases hconf with ⟨_, rfl⟩ | ⟨_, hc, rfl⟩ | ⟨_, hc, _, rfl⟩ | ⟨hf, _, _, rfl⟩
    · exact hs
    · exact State.coherent_latch { s with pending := rest } .reconfigure hs (by simp [hc])
    · exact State.coherent_latch { s with pending := rest } .invalidMode hs (by simp [hc])
    · exact State.coherent_of_no_fault _ hf _
        (TraceState.after_append _ _ _ _ _ htrace (TraceState.after_publish b _ howed)) (by simp) (fun _ => rfl)
  · rcases hupd with ⟨_, rfl⟩ | ⟨_, hc, rfl⟩ | ⟨hf, hc, rb', rfl⟩
    · exact hs
    · exact State.coherent_latch { s with pending := rest } .notConfigured hs (by simp [hc])
    · rw [hactive hc] at htrace
      exact State.coherent_of_no_fault _ hf _
        (TraceState.after_append _ _ _ _ _ htrace (TraceState.after_deliverEvents _ _ _)) (by simp) (fun _ => rfl)
  · exact State.coherent_of_no_fault _ rfl b htrace howed (by simp)
  · exact hs

/-- Settles O55: nothing has been emitted and no mode is active. -/
theorem resetIsCoherent : Obligations.ResetIsCoherent :=
  State.coherent_of_no_fault _ rfl .silent rfl (by simp) (by simp [State.reset])

end Sys2Proof.Machine

/-! PROOFS. The refinement of the block without channel latches and report buffers (spec/10_state.md sections 2 and 4): a
simulation by one lemma per request, and an induction over the requests. -/

namespace Sys2Proof.Machine

/-! ### One request -/

/-- One step from `s` with `r` oldest does what the abstract block does on `r`. -/
def simulates (s : State) (r : Request) (rest : List Request) : Prop :=
  ∃ t, step s = .next t ∧ t.pending = rest ∧ t.abstract = (Abstract.step r s.abstract).1 ∧
    t.events = s.events ++ (Abstract.step r s.abstract).2

/-- CONFIGURE commutes with the abstraction: the abstract block makes the same three checks (R84). -/
theorem configure_commutes (raw : Nat) (s : State) :
    (configure raw s).abstract = (Abstract.step (.configure raw) s.abstract).1 ∧
    (configure raw s).events = s.events ++ (Abstract.step (.configure raw) s.abstract).2 := by
  rcases configure_cases raw s with ⟨hf, heq⟩ | ⟨hf, hc, heq⟩ | ⟨hf, hc, hraw, heq⟩ | ⟨hf, hc, hraw, heq⟩ <;> rw [heq]
  · simp [State.abstract, Abstract.step, hf]
  · simp [State.abstract, Abstract.step, hf, hc]
  · simp [State.abstract, Abstract.step, hf, hc, hraw]
  · simp [State.abstract, Abstract.step, hf, hc, Nat.not_le.2 hraw]

/-- CONFIGURE is simulated. -/
theorem simulates_configure (s : State) (raw : Nat) (rest : List Request) (h : s.pending = .configure raw :: rest) :
    simulates s (.configure raw) rest :=
  ⟨_, step_of_configure s raw rest h, configure_pending raw _, configure_commutes raw _⟩

/-- UPDATE is simulated: what it emits is a function of the active mode, the vector and CONNECTED (R110, R123). -/
theorem simulates_update (s : State) (b : BitVec 192) (rest : List Request) (h : s.pending = .update b :: rest) :
    simulates s (.update b) rest := by
  rcases step_of_update s b rest h with ⟨hf, hstep⟩ | ⟨hf, hc, hstep⟩ | ⟨hf, hc, rb', hstep⟩ <;>
    refine ⟨_, hstep, rfl, ?_⟩
  · simp [State.abstract, Abstract.step, hf]
  · simp [State.abstract, Abstract.step, hf, hc]
  · simp [State.abstract, Abstract.step, hf, hc]

/-- Every request is simulated. -/
theorem simulates_request (s : State) (r : Request) (rest : List Request) (h : s.pending = r :: rest) :
    simulates s r rest := by
  cases r with
  | configure raw => exact simulates_configure s raw rest h
  | update b => exact simulates_update s b rest h
  | reset =>
    refine ⟨_, step_of_reset s rest h, rfl, rfl, ?_⟩
    simp [Abstract.step]
  | setConnected v =>
    refine ⟨_, step_of_setConnected s v rest h, rfl, rfl, ?_⟩
    simp [Abstract.step]

/-! ### A run -/

/-- A run takes its first step and runs on from there. -/
theorem run_succ_of_step (k : Nat) (s t : State) (h : step s = .next t) :
    Sys2Proof.core.run (k + 1) s = Sys2Proof.core.run k t := by
  have hcore : Sys2Proof.core.step s = .next t := h
  simp only [Host.Core.run, hcore]

/-- Settles O56: by induction on the pending requests; each step is simulated, and the rest of the run starts from the
state it leaves. -/
theorem runRefinesBlockWithoutBuffers : Obligations.RunRefinesBlockWithoutBuffers := by
  intro s
  induction hp : s.pending generalizing s with
  | nil => exact ⟨s, rfl, hp, rfl, (List.append_nil _).symm⟩
  | cons r rest ih =>
    obtain ⟨t, hstep, hpend, habs, hev⟩ := simulates_request s r rest hp
    obtain ⟨u, hrun, hdone, habs', hev'⟩ := ih t hpend
    refine ⟨u, (run_succ_of_step rest.length s t hstep).trans hrun, hdone, ?_, ?_⟩
    · rw [habs', habs]
      rfl
    · rw [hev', hev, habs, List.append_assoc]
      rfl

end Sys2Proof.Machine

/-! PROOFS. The whole-machine rules: who writes what, RESET, what a fault does, the phases, and who publishes
(spec/10_state.md, spec/60_exceptions.md section 1, spec/70_reset_and_hazards.md section 1). -/

namespace Sys2Proof.Machine

/-! ### What a step emits -/

/-- A step that adds nothing to the events emits nothing. -/
theorem emitted_eq_nil (s t : State) (h : t.events = s.events) : emitted s t = [] := by
  simp [emitted, h]

/-- What a step adds to the events is what it emits. -/
theorem emitted_of_append (s t : State) (es : List Event) (h : t.events = s.events ++ es) : emitted s t = es := by
  simp [emitted, h]

/-- No report is a Publish. -/
theorem publish_notMem_deliverEvents (w : BitVec 3) (d : List Byte) (out : List (Fin 2 × List Byte)) :
    Event.publish w d ∉ deliverEvents out := by
  simp [deliverEvents]

/-! ### Phases -/

/-- READY is the phase of no fault and an active mode (R28). -/
theorem phase_of_ready (s : State) (h : s.ready) : s.phase = .ready := by
  obtain ⟨hf, hc⟩ := h
  simp [State.phase, hf, hc]

/-- UNCONFIGURED is the phase of no fault and no active mode (R28). -/
theorem phase_of_unconfigured (s : State) (h : s.unconfigured) : s.phase = .unconfigured := by
  obtain ⟨hf, hc⟩ := h
  simp [State.phase, hf, hc]

/-- FAULTED is the phase of any latched cause (R28). -/
theorem phase_of_faulted (s : State) (h : s.fault ≠ 0#2) : s.phase = .faulted := by
  unfold State.phase
  rw [if_pos h]

/-! ### The obligations -/

/-- Settles O47: CONFIGURE, the frame of an UPDATE and the reports each leave the items of the other columns as they
were. -/
theorem eachItemHasItsWriters : Obligations.EachItemHasItsWriters := by
  intro i s t h
  cases i with
  | cfgS8 | cfgS16 | cfgD8 | cfgD16 | cfgS7 | cfgS15 | cfgD7 | cfgD15 =>
    cases h
    simp [Instr.row]
  | drop mmm ch =>
    cases h
    simp [Instr.row, drop_frame State.mode, drop_frame State.configured, drop_frame State.rb,
      drop_frame State.connected, drop_frame State.events, drop_frame State.pending]
  | encS8 ch | encS16 ch | encD8 ch | encD16 ch | encS7 ch | encS15 ch | encD7 ch | encD15 ch =>
    cases h
    simp [Instr.row, encoding_frame State.mode, encoding_frame State.configured, encoding_frame State.connected,
      encoding_frame State.pending]
  | mux | cvt8 | cvt16 | btn | build | deliver | disconnect | connect | reset =>
    cases h
    simp [Instr.row]

/-- Settles O48: CONFIGURE and UPDATE return at their first check, and a write of CONNECTED has none. -/
theorem faultedBlockIgnoresOperations : Obligations.FaultedBlockIgnoresOperations := by
  intro s r rest hf hp hr
  cases r with
  | configure raw =>
    refine ⟨s.connected, ?_, fun _ => rfl⟩
    rw [step_of_configure s raw rest hp, configure_of_faulted raw _ (by exact hf)]
  | update b => exact ⟨s.connected, step_update_of_faulted s b rest hp hf, fun _ => rfl⟩
  | reset => exact absurd rfl hr
  | setConnected v => exact ⟨v == 1, step_of_setConnected s v rest hp, fun hv => absurd rfl (hv v)⟩

/-- Settles O49: of everything a step can do, three cases latch a cause. -/
theorem faultEntryIsPrecise : Obligations.FaultEntryIsPrecise := by
  intro s t hstep hs ht
  rcases step_cases s t hstep with ⟨_, rfl⟩ | ⟨raw, rest, hp, hconf⟩ | ⟨b, rest, hp, hupd⟩ | ⟨rest, _, rfl⟩ |
    ⟨v, rest, _, rfl⟩
  · exact absurd hs ht
  · rcases hconf with ⟨hf, _⟩ | ⟨_, hc, rfl⟩ | ⟨_, hc, hraw, rfl⟩ | ⟨_, _, _, rfl⟩
    · exact absurd hs hf
    · exact ⟨by simp [hp], .inl ⟨raw, by simp [hp], .inl ⟨rfl, hc⟩⟩⟩
    · exact ⟨by simp [hp], .inl ⟨raw, by simp [hp], .inr ⟨rfl, hc, hraw⟩⟩⟩
    · exact absurd hs ht
  · rcases hupd with ⟨hf, _⟩ | ⟨_, hc, rfl⟩ | ⟨_, _, rb', rfl⟩
    · exact absurd hs hf
    · exact ⟨by simp [hp], .inr ⟨b, by simp [hp], rfl, hc⟩⟩
    · exact absurd hs ht
  · exact absurd rfl ht
  · exact absurd hs ht

/-- Settles O50: of everything a step can do, only RESET touches an active mode. -/
theorem activeModeIsImmutable : Obligations.ActiveModeIsImmutable := by
  intro s t hstep hc hhead
  rcases step_cases s t hstep with ⟨_, rfl⟩ | ⟨raw, rest, _, hconf⟩ | ⟨b, rest, _, hupd⟩ | ⟨rest, hp, _⟩ |
    ⟨v, rest, _, rfl⟩
  · exact ⟨hc, rfl⟩
  · rcases hconf with ⟨_, rfl⟩ | ⟨_, _, rfl⟩ | ⟨_, _, _, rfl⟩ | ⟨_, hc', _, rfl⟩
    · exact ⟨hc, rfl⟩
    · exact ⟨hc, rfl⟩
    · exact ⟨hc, rfl⟩
    · exact absurd (hc.symm.trans hc') (by decide)
  · rcases hupd with ⟨_, rfl⟩ | ⟨_, _, rfl⟩ | ⟨_, _, rb', rfl⟩ <;> exact ⟨hc, rfl⟩
  · exact absurd (by rw [hp]; rfl) hhead
  · exact ⟨hc, rfl⟩

/-- Settles O51: of everything a step can do, the activation of a mode, the three latches and RESET change FAULT or
CONFIGURED, of which the phase is a function. -/
theorem phaseTransitions : Obligations.PhaseTransitions := by
  intro s t hstep hne
  rcases step_cases s t hstep with ⟨_, rfl⟩ | ⟨raw, rest, hp, hconf⟩ | ⟨b, rest, _, hupd⟩ | ⟨rest, hp, rfl⟩ |
    ⟨v, rest, _, rfl⟩
  · exact absurd rfl hne
  · rcases hconf with ⟨_, rfl⟩ | ⟨hf, hc, rfl⟩ | ⟨hf, hc, _, rfl⟩ | ⟨hf, hc, _, rfl⟩
    · exact absurd rfl hne
    · exact .inr (.inl ⟨by simp [phase_of_ready s ⟨hf, hc⟩], rfl⟩)
    · exact .inr (.inl ⟨by simp [phase_of_unconfigured s ⟨hf, hc⟩], rfl⟩)
    · exact .inl ⟨phase_of_unconfigured s ⟨hf, hc⟩, phase_of_ready _ ⟨hf, rfl⟩, raw, by simp [hp]⟩
  · rcases hupd with ⟨_, rfl⟩ | ⟨hf, hc, rfl⟩ | ⟨_, _, rb', rfl⟩
    · exact absurd rfl hne
    · exact .inr (.inl ⟨by simp [phase_of_unconfigured s ⟨hf, hc⟩], rfl⟩)
    · exact absurd rfl hne
  · exact .inr (.inr ⟨fun hs => hne hs.symm, rfl, by simp [hp]⟩)
  · exact absurd rfl hne

/-- Settles O52: a failed check ends the UPDATE before CONNECTED and MODE are read. -/
theorem failedCheckReadsNothing : Obligations.FailedCheckReadsNothing := by
  intro s t b rest c w hp hr hstep
  rcases faulted_or_unconfigured s hr with hf | hu
  · cases (step_update_of_faulted s b rest hp hf).symm.trans hstep
    exact step_update_of_faulted { s with connected := c, mode := w } b rest hp hf
  · cases (step_update_of_unconfigured s b rest hp hu).symm.trans hstep
    exact step_update_of_unconfigured { s with connected := c, mode := w } b rest hp hu

/-- Settles O53: of everything a step can do, only the activation of a mode emits a Publish. -/
theorem onlyConfigurePublishes : Obligations.OnlyConfigurePublishes := by
  intro s t w d hstep hmem
  have hsilent (h : t.events = s.events) : False := by simp [emitted_eq_nil s t h] at hmem
  rcases step_cases s t hstep with ⟨_, rfl⟩ | ⟨raw, rest, hp, hconf⟩ | ⟨b, rest, _, hupd⟩ | ⟨rest, _, rfl⟩ |
    ⟨v, rest, _, rfl⟩
  · exact (hsilent rfl).elim
  · rcases hconf with ⟨_, rfl⟩ | ⟨_, _, rfl⟩ | ⟨_, _, _, rfl⟩ | ⟨_, hc, _, rfl⟩
    · exact (hsilent rfl).elim
    · exact (hsilent rfl).elim
    · exact (hsilent rfl).elim
    · rw [emitted_of_append s _ _ rfl] at hmem
      obtain ⟨rfl, rfl⟩ : w = BitVec.ofNat 3 raw ∧ d = Config.desc (modeOfWord (BitVec.ofNat 3 raw)) := by
        simpa using hmem
      exact ⟨⟨raw, by simp [hp]⟩, rfl, rfl, rfl, hc, emitted_of_append s _ _ rfl⟩
  · rcases hupd with ⟨_, rfl⟩ | ⟨_, _, rfl⟩ | ⟨_, _, rb', rfl⟩
    · exact (hsilent rfl).elim
    · exact (hsilent rfl).elim
    · rw [emitted_of_append s _ _ rfl] at hmem
      exact absurd hmem (publish_notMem_deliverEvents w d _)
  · exact (hsilent rfl).elim
  · exact (hsilent rfl).elim

/-- Settles O45: RESET looks at no phase, and its free values stand for the unspecified ones. -/
theorem resetClearsConfiguredAndFault : Obligations.ResetClearsConfiguredAndFault := by
  intro s
  exact ⟨_, _, _, _, rfl, phase_of_unconfigured _ ⟨rfl, rfl⟩⟩

/-- Settles O46: nothing is latched, active, emitted or pending. -/
theorem resetStateIsUnconfigured : Obligations.ResetStateIsUnconfigured :=
  ⟨rfl, rfl, phase_of_unconfigured _ ⟨rfl, rfl⟩, rfl, rfl⟩

end Sys2Proof.Machine

/-! PROOFS. The datapath (spec/41_datapath.md, spec/70_reset_and_hazards.md section 3): the multiplexer, the two
converters, the button byte, BUILD and DELIVER. -/

namespace Sys2Proof.Machine

/-! ### The two bytes of a channel, by its signed value -/

/-- The high byte is the floor of the division by 256 (R101). -/
theorem toInt_hiByte (v : Chan) : (hiByte v).toInt = v.toInt / 256 := by
  have hv := v.isLt
  rw [BitVec.toInt_eq_toNat_cond, BitVec.toInt_eq_toNat_cond, toNat_hiByte]
  omega

/-- The high byte of a channel of a given value (R101). -/
theorem hiByte_of_toInt (v : Chan) (z : Int) (h : v.toInt / 256 = z) : hiByte v = BitVec.ofInt 8 z := by
  rw [← h, ← toInt_hiByte, BitVec.ofInt_toInt]

/-- The low byte of a channel of a given value (R102). -/
theorem loByte_of_toInt (v : Chan) (z : Int) (h : v.toInt = z) : loByte v = BitVec.ofInt 8 z := by
  have hv := v.isLt
  apply BitVec.eq_of_toNat_eq
  rw [← h, BitVec.toNat_ofInt, BitVec.toInt_eq_toNat_cond]
  simp only [loByte, BitVec.extractLsb'_toNat, Nat.shiftRight_zero]
  omega

/-- The high byte is the arithmetic shift right by 8 (R101). -/
theorem hiByte_eq_sshiftRight (v : Chan) : hiByte v = (v.sshiftRight 8).setWidth 8 := by
  apply BitVec.eq_of_getLsbD_eq
  intro i hi
  have hin : 8 + i < 16 := by omega
  have hnext : ¬ 16 ≤ i := by omega
  simp [hiByte, hi, BitVec.getLsbD_sshiftRight, hin, hnext]

/-- Both bytes of a channel of a given value, low first (R102). -/
theorem bytes_of_toInt (v : Chan) (z : Int) (h : v.toInt = z) :
    loByte v = BitVec.ofInt 8 z ∧ hiByte v = BitVec.ofInt 8 (z / 256) :=
  ⟨loByte_of_toInt v z h, hiByte_of_toInt v _ (by rw [h])⟩

/-! ### The selection of the converters -/

/-- The words with MODE.W = 1 are the odd ones (R62). -/
theorem fieldW_eq_true_iff (w : BitVec 3) : fieldW w = true ↔ w.toNat % 2 = 1 := by
  revert w
  decide

/-- The words with MODE.W = 0 are the even ones (R62). -/
theorem fieldW_eq_false_iff (w : BitVec 3) : fieldW w = false ↔ w.toNat % 2 = 0 := by
  revert w
  decide

/-! ### BUILD -/

/-- Byte 0 is the button byte (R103, R104). -/
theorem getElem_buildReport_zero (m : Mode) (ch : ChannelVector) (g : Fin 2) (old : Report) :
    (buildReport m ch g old)[0] = 0x00#8 := by
  by_cases h : axisWidth m = 8 <;> simp [buildReport, axisIndices, writeAxis, h, btnByte]

/-- BUILD(0) and BUILD(1) write different buffers and read nothing the other writes (R104). -/
theorem build_comm (m : Mode) (s : State) : build m 1 (build m 0 s) = build m 0 (build m 1 s) := by
  simp only [build]
  congr 1
  rw [Vector.set_comm _ _ (by decide)]
  simp

/-! ### The obligations -/

/-- Settles O38: the high byte is the floor of the division, of which every clause is a case. -/
theorem cvt8IsFloorDivision : Obligations.Cvt8IsFloorDivision := by
  intro v s
  have hval (z : Int) (b : Byte) (h : v.toInt / 256 = z) (hb : BitVec.ofInt 8 z = b) : v.extractLsb' 8 8 = b :=
    (hiByte_of_toInt v z h).trans hb
  have hlow := v.le_toInt
  refine ⟨rfl, fun w => ?_, hiByte_eq_sshiftRight v, hiByte_of_toInt v _ rfl, toInt_hiByte v,
    fun h => hval 0 _ (by omega) rfl, fun h => hval (-1) _ (by omega) rfl, fun h => hval 127 _ (by omega) rfl,
    fun h => hval (-128) _ (by omega) rfl, fun h => hval (-127) _ (by omega) rfl, le_hiByte_of_neg v,
    fun h => hval 1 _ (by omega) rfl, fun h => hval (-2) _ (by omega) rfl, fun h => hval 125 _ (by omega) rfl,
    fun h => hval (-125) _ (by omega) rfl⟩
  rw [decode_cvt8 w.toNat w.isLt, extractLsb'_setWidth_chan, fieldW_eq_false_iff]
  split <;> simp [*]

/-- Settles O39: the two bytes are the pattern, and the values' bytes are computed from the value. -/
theorem cvt16KeepsEveryBit : Obligations.Cvt16KeepsEveryBit := by
  intro v s
  have hread : v.extractLsb' 8 8 ++ v.extractLsb' 0 8 = v := hiByte_append_loByte v
  refine ⟨rfl, fun w => ?_, hread, congrArg BitVec.toInt hread, rfl, bytes_of_toInt v 0, bytes_of_toInt v (-1),
    bytes_of_toInt v 255, bytes_of_toInt v 256, bytes_of_toInt v 32767, bytes_of_toInt v (-32767),
    bytes_of_toInt v (-32768), le_hiByte_of_neg v, bytes_of_toInt v 1000, bytes_of_toInt v 100, bytes_of_toInt v (-100)⟩
  rw [decode_cvt16 w.toNat w.isLt, extractLsb'_setWidth_chan, fieldW_eq_true_iff]
  split <;> simp [*]

/-- Settles O41: each byte of the buffer by BUILD's own lemmas, and the two BUILDs commute. -/
theorem buildWritesTheReport : Obligations.BuildWritesTheReport := by
  refine ⟨fun g s => ?_, fun w g => decode_build w.toNat w.isLt g, fun s t u t' u' hst htu hst' htu' => ?_⟩
  · have hwidth := axisWidth_modeOfWord s.mode
    refine ⟨buildReport (modeOfWord s.mode) s.ch g s.rb[g], rfl, getElem_buildReport_zero _ _ _ _, fun a => ?_,
      getElem_buildReport_beyond _ _ _ _⟩
    obtain ⟨h8, h16⟩ := getElem_buildReport_axis (modeOfWord s.mode) s.ch g s.rb[g] a
    refine ⟨s.ch[channelIndex g a], Vector.getElem?_eq_getElem _, fun hw => h8 ?_, fun hw => h16 ?_⟩
    · rw [hwidth, hw]
      rfl
    · rw [hwidth, hw]
      rfl
  · cases hst
    cases htu
    cases hst'
    cases htu'
    exact build_comm (modeOfWord s.mode) s

/-- Settles O42: DELIVER takes RLEN bytes from the front, which is at most the 13 bytes of a buffer. -/
theorem deliverEmitsTheBuffer : Obligations.DeliverEmitsTheBuffer := by
  intro g s
  have hlen : (reportBytes (modeOfWord s.mode) s.rb[g]).length = if fieldW s.mode then 13 else 7 := by
    rw [reportBytes, List.length_take, reportLength_modeOfWord, Vector.length_toList]
    split <;> rfl
  refine ⟨reportBytes (modeOfWord s.mode) s.rb[g], rfl, hlen, fun k hk => ⟨?_, ?_⟩⟩
  · rw [hlen] at hk
    split at hk <;> omega
  · simp [reportBytes]

/-- Settles O37: the index `6*g + a` is below 12 for every `g` and `a`, and MODE.D gives the report count. -/
theorem muxSelectsItsChannel : Obligations.MuxSelectsItsChannel := by
  refine ⟨fun g a s => ⟨by omega, rfl⟩, fun s => ⟨rfl, rfl⟩, fun w g a => decode_mux w.toNat w.isLt g a, fun w => ?_⟩
  rw [reportCount_modeOfWord]
  cases fieldD w <;> decide

end Sys2Proof.Machine

/-! PROOFS. The reports and their laws (spec/42_report_encoder.md section 3, spec/20_memory.md section 6): what an UPDATE
emits, on which channels it depends, and how encodings compare. -/

namespace Sys2Proof.Machine

/-! ### What the deliveries of an UPDATE are -/

/-- As many reports as the mode has, when connected (R123). -/
theorem length_encodeContract (m : Mode) (ch : ChannelVector) (c : Bool) :
    (encodeContract m ch c).length = c.toNat * reportCount m := by
  cases c with
  | false => simp [encodeContract]
  | true => simpa [deliverEvents] using length_deliverEvents_connected m ch

/-- Every delivery to gamepad `g` is the report of `g` (R123). -/
theorem eq_contractReport_of_mem_deliverEvents (m : Mode) (ch : ChannelVector) (c : Bool) (g : Fin 2)
    (bytes : List Byte) (h : Event.deliver g bytes ∈ deliverEvents (encodeContract m ch c)) :
    bytes = contractReport m ch g := by
  cases c with
  | false => simp [encodeContract, deliverEvents] at h
  | true =>
    obtain ⟨_, hmem, hevent⟩ := List.mem_map.1 h
    obtain ⟨_, _, rfl⟩ := List.mem_map.1 hmem
    cases hevent
    rfl

/-- Two UPDATEs under one mode and CONNECTED give a sink the same when the reports of its own index agree (R133). -/
theorem sink_congr (s t1 t2 : State) (m : Mode) (ch1 ch2 : ChannelVector) (c : Bool) (g : Fin 2)
    (h1 : t1.events = s.events ++ deliverEvents (encodeContract m ch1 c))
    (h2 : t2.events = s.events ++ deliverEvents (encodeContract m ch2 c))
    (hreport : contractReport m ch1 g = contractReport m ch2 g) : t1.sink g = t2.sink g := by
  cases c with
  | false =>
    have hevents : t1.events = t2.events := h1.trans h2.symm
    simp only [State.sink, hevents]
  | true =>
    simp only [State.sink, h1, h2, List.filterMap_append, deliverEvents, encodeContract, if_true, List.filterMap_map]
    congr 1
    apply List.filterMap_congr
    intro g' _
    by_cases hg : g' = g
    · simp [hg, hreport]
    · simp [hg]

/-- In a single mode an UPDATE delivers report 0 only (R114, R123). -/
theorem encodeContract_single_congr (m : Mode) (ch1 ch2 : ChannelVector) (c : Bool) (hn : reportCount m = 1)
    (hreport : contractReport m ch1 0 = contractReport m ch2 0) : encodeContract m ch1 c = encodeContract m ch2 c := by
  simp only [encodeContract, hn, gamepadIndices_one, List.map_cons, List.map_nil, hreport]

/-! ### On which channels a report depends -/

/-- A report depends on its own six channels only (R55). -/
theorem contractReport_congr (m : Mode) (ch1 ch2 : ChannelVector) (g : Fin 2)
    (h : ∀ a, ch1[channelIndex g a] = ch2[channelIndex g a]) : contractReport m ch1 g = contractReport m ch2 g := by
  simp only [contractReport, h]

/-- A report depends on the width of its mode, not on its range or report count (R126). -/
theorem contractReport_congr_width (m m' : Mode) (ch : ChannelVector) (g : Fin 2) (h : axisWidth m = axisWidth m') :
    contractReport m ch g = contractReport m' ch g := by
  simp only [contractReport, fieldBytes, h]

/-- BUILD depends on the width of the mode, not on its range or report count (R126). -/
theorem buildReport_congr_width (m m' : Mode) (ch : ChannelVector) (g : Fin 2) (old : Report)
    (h : axisWidth m = axisWidth m') : buildReport m ch g old = buildReport m' ch g old := by
  simp only [buildReport, writeAxis, h]

/-- The reports of two modes of one width and report count are the same: the range does not reach them (R126). -/
theorem sendReports_congr (m m' : Mode) (s : State) (hw : axisWidth m = axisWidth m')
    (hn : reportCount m = reportCount m') : sendReports m s = sendReports m' s := by
  rcases reportCount_cases m with h | h
  · rw [sendReports_single m s h, sendReports_single m' s (hn ▸ h), buildReport_congr_width m m' _ _ _ hw,
      contractReport_congr_width m m' _ _ hw]
  · rw [sendReports_dual m s h, sendReports_dual m' s (hn ▸ h)]
    simp only [buildReport_congr_width m m' _ _ _ hw, contractReport_congr_width m m' _ _ hw]

/-- The encoding rows of two modes of one width and report count are the same operation (R126). -/
theorem exec_encodingRow_congr (m m' : Mode) (ch : ChannelVector) (s : State) (hw : axisWidth m = axisWidth m')
    (hn : reportCount m = reportCount m') : exec (encodingRow ch m) s = exec (encodingRow ch m') s := by
  have hsend : sendReports m = sendReports m' := funext fun s => sendReports_congr m m' s hw hn
  rw [exec_encodingRow, exec_encodingRow, hsend]

/-- A dual encoding emits the report of the single one of its width, and another one after it (R126). -/
theorem emitted_dual_extends_single (m m' : Mode) (ch : ChannelVector) (s t t' : State) (hr : s.ready)
    (hn : reportCount m = 1) (hn' : reportCount m' = 2) (hw : axisWidth m = axisWidth m')
    (hst : exec (encodingRow ch m) s = .next t) (hst' : exec (encodingRow ch m') s = .next t') :
    emitted s t' = emitted s t ++ (emitted s t').drop 1 := by
  obtain ⟨r0, hsingle, -⟩ := exec_encodingRow_single m ch s hr hn
  obtain ⟨r0', r1', hdual, -⟩ := exec_encodingRow_dual m' ch s hr hn'
  cases hsingle.symm.trans hst
  cases hdual.symm.trans hst'
  simp [emitted, contractReport_congr_width m m' ch 0 hw]

/-! ### The axis fields of a report -/

/-- The field of axis `a` in the 8-bit layout (R41). -/
theorem getElem?_contractReport_8 (m : Mode) (ch : ChannelVector) (g : Fin 2) (a : Fin 6) (h : axisWidth m = 8) :
    (contractReport m ch g)[1 + a.val]? = some (hiByte ch[channelIndex g a]) := by
  rw [contractReport_eq_report8 m ch g h]
  obtain ⟨a, ha⟩ := a
  interval_cases a <;> rfl

/-- The high byte of axis `a` in the 16-bit layout (R42). -/
theorem getElem?_contractReport_16 (m : Mode) (ch : ChannelVector) (g : Fin 2) (a : Fin 6) (h : axisWidth m = 16) :
    (contractReport m ch g)[2 + 2 * a.val]? = some (hiByte ch[channelIndex g a]) := by
  rw [contractReport_eq_report16 m ch g h]
  obtain ⟨a, ha⟩ := a
  interval_cases a <;> rfl

/-! ### The declared ranges -/

/-- The declared ranges of the 8-bit modes (R80). -/
theorem rangeFor_of_axisWidth_8 (m : Mode) (h : axisWidth m = 8) :
    ((rangeFor m).1 = -127 ∨ (rangeFor m).1 = 0) ∧ (rangeFor m).2 = 127 := by
  revert h
  cases m <;> decide

/-- The declared ranges of the 16-bit modes (R80). -/
theorem rangeFor_of_axisWidth_16 (m : Mode) (h : axisWidth m = 16) :
    ((rangeFor m).1 = -32767 ∨ (rangeFor m).1 = 0) ∧ (rangeFor m).2 = 32767 := by
  revert h
  cases m <;> decide

/-! ### The obligations -/

/-- Settles O30: the step in phase READY, and the number of its reports. -/
theorem updateEmitsPureContract : Obligations.UpdateEmitsPureContract := by
  intro s b rest hp hr
  obtain ⟨rb', hstep⟩ := step_update_of_ready s b rest hp hr
  refine ⟨rb', hstep, ?_⟩
  rw [length_encodeContract, reportCount_modeOfWord]
  cases fieldD s.mode <;> rfl

/-- Settles O32: the deliveries of one index are its report, and a report depends on its own six channels. -/
theorem reportsIgnoreOtherChannels : Obligations.ReportsIgnoreOtherChannels := by
  intro s t1 t2 b1 b2 rest hr hst1 hst2
  obtain ⟨rb1, hstep1⟩ := step_update_of_ready { s with pending := .update b1 :: rest } b1 rest rfl hr
  obtain ⟨rb2, hstep2⟩ := step_update_of_ready { s with pending := .update b2 :: rest } b2 rest rfl hr
  cases hstep1.symm.trans hst1
  cases hstep2.symm.trans hst2
  refine ⟨fun hlow => ?_, fun hhigh => ?_⟩
  · have hreport : contractReport (modeOfWord s.mode) (channelsOfBus b1) 0 =
        contractReport (modeOfWord s.mode) (channelsOfBus b2) 0 :=
      contractReport_congr _ _ _ 0 fun a => hlow _ (by simp [channelIndex])
    refine ⟨sink_congr s _ _ _ _ _ _ 0 rfl rfl hreport, fun hsingle => ?_⟩
    have hn : reportCount (modeOfWord s.mode) = 1 := by simp [reportCount_modeOfWord, hsingle]
    exact congrArg (s.events ++ deliverEvents ·) (encodeContract_single_congr _ _ _ _ hn hreport)
  · exact sink_congr s _ _ _ _ _ _ 1 rfl rfl
      (contractReport_congr _ _ _ 1 fun a => hhigh _ (by simp [channelIndex]))

/-- Settles O33: the field is cut from the one channel (R104). -/
theorem axisFieldDependsOnItsChannel : Obligations.AxisFieldDependsOnItsChannel := by
  intro m ch1 ch2 g a r1 r2 h
  obtain ⟨h8, h16⟩ := getElem_buildReport_axis m ch1 g r1 a
  obtain ⟨h8', h16'⟩ := getElem_buildReport_axis m ch2 g r2 a
  have hch : ch1[channelIndex g a] = ch2[channelIndex g a] := h
  refine ⟨fun hw => ?_, fun hw => ⟨?_, ?_⟩⟩
  · rw [h8 hw, h8' hw, hch]
  · rw [(h16 hw).1, (h16' hw).1, hch]
  · rw [(h16 hw).2, (h16' hw).2, hch]

/-- Settles O34: range and report count do not reach a report, and both widths hold the high byte. -/
theorem lawsBetweenEncodings : Obligations.LawsBetweenEncodings := by
  refine ⟨fun s ch => ⟨?_, ?_, ?_, ?_⟩, fun s t t' ch hr => ⟨?_, ?_⟩, fun ch g a => ?_⟩
  · exact exec_encodingRow_congr .s7 .s8 ch s rfl rfl
  · exact exec_encodingRow_congr .s15 .s16 ch s rfl rfl
  · exact exec_encodingRow_congr .d7 .d8 ch s rfl rfl
  · exact exec_encodingRow_congr .d15 .d16 ch s rfl rfl
  · exact emitted_dual_extends_single .s8 .d8 ch s t t' hr rfl rfl rfl
  · exact emitted_dual_extends_single .s16 .d16 ch s t t' hr rfl rfl rfl
  · rw [getElem?_contractReport_8 .s8 ch g a rfl, getElem?_contractReport_16 .s16 ch g a rfl]

/-- Settles O35: the step in phase READY writes neither FAULT nor CONFIGURED nor MODE, whatever the vector. -/
theorem noChannelValueIsAFault : Obligations.NoChannelValueIsAFault := by
  intro s t b rest hp hr hst
  obtain ⟨rb', hstep⟩ := step_update_of_ready s b rest hp hr
  cases hstep.symm.trans hst
  obtain ⟨hf, hc⟩ := hr
  exact ⟨hf, hc, rfl⟩

/-- Settles O36: the 8-bit field is the floor of the division by 256, the 16-bit field the value itself, and a
non-negative channel has a high byte below `0x80`. -/
theorem obeyedRangesStayDeclared : Obligations.ObeyedRangesStayDeclared := by
  refine ⟨fun m v => ⟨fun hw => ?_, fun hw => ?_⟩, fun m ch g a hobeys hmin => ?_⟩
  · have hbyte : (cvt8 v).toInt = v.toInt / 256 := toInt_hiByte v
    have hlow := v.le_toInt
    have hhigh := v.toInt_lt
    obtain ⟨hl | hl, hu⟩ := rangeFor_of_axisWidth_8 m hw <;> rw [hbyte, hl, hu] <;> omega
  · have hread : cvt16Hi v ++ cvt16Lo v = v := hiByte_append_loByte v
    have hhigh := v.toInt_lt
    obtain ⟨hl | hl, hu⟩ := rangeFor_of_axisWidth_16 m hw <;> rw [hread, hl, hu] <;> omega
  · obtain ⟨-, hnonneg⟩ := hobeys
    have hle := hiByte_le_of_nonneg _ (hnonneg hmin (channelIndex g a))
    exact ⟨fun hw => ⟨_, getElem?_contractReport_8 m ch g a hw, hle⟩,
      fun hw => ⟨_, getElem?_contractReport_16 m ch g a hw, hle⟩⟩

/-- Settles O40: BTN is the constant, BUILD begins with it, and every delivery of an UPDATE is a report of R123. -/
theorem buttonByteIsZero : Obligations.ButtonByteIsZero := by
  refine ⟨fun _ => rfl, fun w b => decode_btn w.toNat w.isLt b, getElem_buildReport_zero, ?_⟩
  intro s t b rest hp hst g bytes hmem
  by_cases hr : s.ready
  · rw [emitted_update_of_ready s t b rest hp hr hst] at hmem
    rw [eq_contractReport_of_mem_deliverEvents _ _ _ g bytes hmem]
    exact head_contractReport _ _ g
  · have hsilent : t.events = s.events := by
      rcases faulted_or_unconfigured s hr with hf | hu
      · cases (step_update_of_faulted s b rest hp hf).symm.trans hst
        rfl
      · cases (step_update_of_unconfigured s b rest hp hu).symm.trans hst
        rfl
    simp [emitted_eq_nil s t hsilent] at hmem

end Sys2Proof.Machine

/-! PROOFS. The ports and the lines (spec/30_encoding.md sections 6 and 7, spec/60_exceptions.md section 1). -/

namespace Sys2Proof.Machine

/-! ### The packing of bytes -/

/-- Bit `j` of byte `k` is bit `8*k + j` of the packed number (R67). -/
theorem testBit_packBytes (bytes : List Byte) (k j : Nat) (hk : k < bytes.length) (hj : j < 8) :
    (packBytes bytes).testBit (8 * k + j) = bytes[k].getLsbD j := by
  induction bytes generalizing k with
  | nil => simp at hk
  | cons b bytes ih =>
    have hpack : packBytes (b :: bytes) = 2 ^ 8 * packBytes bytes + b.toNat := by
      simp only [packBytes]
      omega
    rw [hpack, Nat.testBit_two_pow_mul_add _ b.isLt]
    cases k with
    | zero => simp [hj, BitVec.testBit_toNat]
    | succ k =>
      have hbit : 8 * (k + 1) + j - 8 = 8 * k + j := by omega
      rw [if_neg (by omega), hbit]
      exact ih k (by simpa using hk)

/-- Byte `k` of a packed report is cut out whole, whatever stands above the report (R67). -/
theorem extractLsb'_packBytes (bytes : List Byte) (above : BitVec 104) (k : Nat) (hlen : bytes.length ≤ 13)
    (hk : k < bytes.length) :
    (BitVec.ofNat 104 (packBytes bytes) ||| (above <<< (8 * bytes.length))).extractLsb' (8 * k) 8 = bytes[k] := by
  apply BitVec.eq_of_getLsbD_eq
  intro j hj
  have hlow : 8 * k + j < 8 * bytes.length := by omega
  have hport : 8 * k + j < 104 := by omega
  rw [BitVec.getLsbD_extractLsb', BitVec.getLsbD_or, BitVec.getLsbD_shiftLeft, BitVec.getLsbD_ofNat,
    testBit_packBytes bytes k j hk hj]
  simp [hj, hlow, hport]

/-! ### The descriptor read port -/

/-- Every offset of the active descriptor is an address of DESC_AW bits (D23). -/
theorem lt_two_pow_descAw (m : Mode) (k : Nat) (h : k < (Config.desc m).length) : k < 2 ^ Config.descAw :=
  lt_of_lt_of_le h (Config.length_desc_le m)

/-- `desc_len_o` has a bit more than the address, so it holds the length of the longest descriptor (D23). -/
theorem toNat_descLenO (s : State) (moment : Nat) (hc : s.configured = true) :
    (s.descLenO moment).toNat = (Config.desc (modeOfWord s.mode)).length := by
  have hlen := Config.length_desc_le (modeOfWord s.mode)
  have hpow : 2 ^ Config.descAw < 2 ^ (Config.descAw + 1) := Nat.pow_lt_pow_right (by decide) (Nat.lt_succ_self _)
  rw [State.descLenO, if_pos hc, BitVec.toNat_ofNat]
  exact Nat.mod_eq_of_lt (lt_of_le_of_lt hlen hpow)

/-- `desc_data_o` shows the byte at the offset on the address (R67). -/
theorem descDataO_ofNat (s : State) (moment k : Nat) (hc : s.configured = true)
    (h : k < (Config.desc (modeOfWord s.mode)).length) :
    s.descDataO (BitVec.ofNat Config.descAw k) moment = (Config.desc (modeOfWord s.mode))[k] := by
  simp [State.descDataO, hc, descriptorFor, Nat.mod_eq_of_lt (lt_two_pow_descAw _ k h), h]

/-! ### The lines -/

/-- `c<i>` of a line is laid at channel `i` (R68). -/
theorem getElem_channelsOfInts (v : Vector Int 12) (i : Fin 12) : (channelsOfInts v)[i] = BitVec.ofInt 16 v[i] := by
  obtain ⟨i, hi⟩ := i
  interval_cases i <;> rfl

/-- A value that can be written is read back from its 16-bit pattern (R68). -/
theorem toInt_ofInt_of_writable (z : Int) (h : writable z = true) : (BitVec.ofInt 16 z).toInt = z := by
  have hz : -32768 ≤ z ∧ z ≤ 32767 := by simpa [writable] using h
  rw [BitVec.toInt_ofInt]
  apply Int.bmod_eq_of_le <;> omega

/-! ### The obligations -/

/-- Settles O58: index and length fit their ports, and the packed bytes read back. -/
theorem reportPortCarriesEveryByte : Obligations.ReportPortCarriesEveryByte := by
  intro g bytes moment hlen
  refine ⟨_, rfl, ?_, ?_, fun k hk => extractLsb'_packBytes bytes _ k hlen hk⟩
  · simp
  · rw [BitVec.toNat_ofNat]
    omega

/-- Settles O59: the outputs are the registers, and the read port reaches every byte of the active descriptor. -/
theorem statusOutputsShowRegisters : Obligations.StatusOutputsShowRegisters := by
  refine fun s moment => ⟨rfl, rfl, fun hc => ⟨if_pos hc, toNat_descLenO s moment hc, fun k hk => ?_⟩⟩
  refine ⟨BitVec.ofNat Config.descAw k, ?_, descDataO_ofNat s moment k hc hk⟩
  rw [BitVec.toNat_ofNat, Nat.mod_eq_of_lt (lt_two_pow_descAw _ k hk)]

/-- Settles O60: UPDATE1 is its expansion, and the bus and the pattern give each value back. -/
theorem linesExpandToTheirChannels : Obligations.LinesExpandToTheirChannels := by
  refine ⟨fun _ => rfl, fun v hv => ⟨_, rfl, fun i => ?_⟩⟩
  have hwritable : ∀ k (hk : k < 12), writable v[k] = true := by simpa [Line.valid] using hv
  rw [channelsOfBus_busOfChannels, getElem_channelsOfInts]
  exact toInt_ofInt_of_writable v[i] (hwritable i i.isLt)

/-- Settles O57: the level stands first, RESET leaves the rest out, and the port's operand has three bits. -/
theorem portRequestPriority : Obligations.PortRequestPriority := by
  refine fun p => ⟨fun hrst => ?_, fun hrst hcfg hupd => ?_, fun raw hmem => ?_⟩
  · simp [PortInputs.requests, hrst]
  · simp [PortInputs.requests, hrst, hcfg, hupd]
  · cases hrst : p.rst_i with
    | true => simp [PortInputs.requests, hrst] at hmem
    | false =>
      obtain ⟨-, rfl⟩ : p.cfg_valid_i = true ∧ raw = p.cfg_mode_i.toNat := by
        simpa [PortInputs.requests, hrst] using hmem
      exact p.cfg_mode_i.isLt

end Sys2Proof.Machine
